-- ==== Sys2Proof/Word.lean ====
section
/-! DEFINITION. The word types of the block: bytes (a status register, an opcode, a payload element) and the 32-bit words
of the host's registers (spec 00 R9, 10 R22). Every value of the block is unsigned (R9). -/

namespace Sys2Proof

/-- A byte: 8 bits, bit 0 the least significant (R9). -/
abbrev Byte := BitVec 8

/-- A 32-bit word: the width of every host register but the byte buffers (R22) and of a raw transport status
(`XFER_STATUS_W` = 32, R6). -/
abbrev Word := BitVec 32

end Sys2Proof
end

