-- ==== Sys2Proof/Syntax.lean ====
section
/-! DEFINITION. The instructions: one constructor for each row of spec/opcode_table.json.

The table has three kinds of rows (spec 30). The eight request operations are words the host writes to REQ (R85, R86). The
five wire commands are frames the block sends to the flash (R90). The five pseudo rows are the request words of R98, each
the TRANSFER of one wire command. -/

namespace Sys2Proof

/-- The operand fields of a request word (R85): ARG [11:4], AP [12], NW [20:13] and NR [28:21]. An operation that ignores
a field still carries it, so that encoding loses no bit. -/
structure Fields where
  arg : BitVec 8
  ap  : BitVec 1
  nw  : BitVec 8
  nr  : BitVec 8
deriving DecidableEq, Repr

/-- The instructions of the block. -/
inductive Instr where
  /-- CONFIGURE (OP 0x1, R141): ARG is the address width. -/
  | configure (f : Fields)
  /-- TRANSFER (OP 0x2, R110): ARG the wire opcode, AP, NW, NR the descriptor's shape. -/
  | transfer (f : Fields)
  /-- WAIT_READY (OP 0x3, R150): every field ignored. -/
  | waitReady (f : Fields)
  /-- ENABLE_WRITE (OP 0x4, R165): every field ignored. -/
  | enableWrite (f : Fields)
  /-- READ_DECODE (OP 0x5, R185): every field ignored. -/
  | readDecode (f : Fields)
  /-- RELEASE_LATCH (OP 0x6, R200): every field ignored. -/
  | releaseLatch (f : Fields)
  /-- RESET_PROTECTION (OP 0x7, R215): every field ignored. -/
  | resetProtection (f : Fields)
  /-- RUN_RECOVERY (OP 0x8, R230): ARG is the address width. -/
  | runRecovery (f : Fields)
  /-- The wire command RDSR1 (0x05, R118). -/
  | rdsr1
  /-- The wire command RDSR2 (0x35, R119). -/
  | rdsr2
  /-- The wire command RDSR3 (0x15, R120). -/
  | rdsr3
  /-- The wire command WREN (0x06, R121). -/
  | wren
  /-- The wire command WRSR1 (0x01, R122) with its payload byte. -/
  | wrsr1 (v : Byte)
  /-- The request word 0x00200052: TRANSFER opc=0x05, nr=1 (R98). -/
  | transferRdsr1
  /-- The request word 0x00200352: TRANSFER opc=0x35, nr=1 (R98). -/
  | transferRdsr2
  /-- The request word 0x00200152: TRANSFER opc=0x15, nr=1 (R98). -/
  | transferRdsr3
  /-- The request word 0x00000062: TRANSFER opc=0x06 (R98). -/
  | transferWren
  /-- The request word 0x00002012: TRANSFER opc=0x01, tx=[TXBUF[0]] (R98). -/
  | transferWrsr1
deriving DecidableEq, Repr

/-- The pseudo row that a TRANSFER's fields spell, if they spell one (R98). -/
def pseudoOf (f : Fields) : Option Instr :=
  if f = ⟨0x05#8, 0#1, 0#8, 1#8⟩ then some .transferRdsr1
  else if f = ⟨0x35#8, 0#1, 0#8, 1#8⟩ then some .transferRdsr2
  else if f = ⟨0x15#8, 0#1, 0#8, 1#8⟩ then some .transferRdsr3
  else if f = ⟨0x06#8, 0#1, 0#8, 0#8⟩ then some .transferWren
  else if f = ⟨0x01#8, 0#1, 1#8, 0#8⟩ then some .transferWrsr1
  else none

end Sys2Proof
end

