-- ==== Sys2Proof/WellFormed.lean ====
section
/-! DEFINITION. Which instruction terms are well formed. Every value of every field is a word the host can write (R85, R87),
so the one check is that a TRANSFER whose fields are those of a pseudo row of R98 is written as that row's constructor. -/

namespace Sys2Proof

/-- A term is well formed unless it is a `transfer` whose word a pseudo row of the opcode table names (R98). -/
def Instr.wf : Instr → Bool
  | .transfer f => (pseudoOf f).isNone
  | .configure _ | .waitReady _ | .enableWrite _ | .readDecode _ | .releaseLatch _ | .resetProtection _
  | .runRecovery _ | .rdsr1 | .rdsr2 | .rdsr3 | .wren | .wrsr1 _ | .transferRdsr1 | .transferRdsr2
  | .transferRdsr3 | .transferWren | .transferWrsr1 => true

end Sys2Proof
end

