-- ==== Sys2Proof/Decode.lean ====
section
/-! DEFINITION. The two decoders and the encoder (spec 30). A request word is 32 bits wide and decodes by its OP field (R85,
R86); a wire frame is the bit sequence on D0, most significant bit first in every byte (R64, R80–R83). Both decoders are
total and reject by name. -/

namespace Sys2Proof

/-- Why bits are no instruction. -/
inductive DecodeError where
  /-- A request word with RSV ≠ 0 (R93). -/
  | reservedBits
  /-- A request word whose OP is 0x0 or 0x9–0xF (R93). -/
  | reservedOp (op : BitVec 4)
  /-- A frame whose first byte is none of the five admitted opcodes (R92). -/
  | reservedOpcode (opc : Byte)
  /-- A frame that ends before its opcode or its payload byte is complete. -/
  | truncated
  /-- A frame with bits after its last payload byte. -/
  | trailingBits
deriving DecidableEq, Repr

/-- An instruction as bits: a request word, or the bits a frame puts on D0 in the order of the clocks. -/
inductive Code where
  | request (w : Word)
  | frame (bits : List Bool)
deriving DecidableEq, Repr

/-! ### Request words -/

/-- OP, bits [3:0] (R85). -/
def opField (w : Word) : BitVec 4 := w.extractLsb' 0 4

/-- RSV, bits [31:29] (R85). -/
def rsvField (w : Word) : BitVec 3 := w.extractLsb' 29 3

/-- ARG, AP, NW and NR (R85). -/
def fieldsOf (w : Word) : Fields where
  arg := w.extractLsb' 4 8
  ap := w.extractLsb' 12 1
  nw := w.extractLsb' 13 8
  nr := w.extractLsb' 21 8

/-- A TRANSFER, under its pseudo row's name where R98 gives the word one. -/
def decodeTransfer (f : Fields) : Instr := (pseudoOf f).getD (.transfer f)

/-- The instruction of a request word (R86); R93's reserved words are rejected. -/
def decodeRequest (w : Word) : Except DecodeError Instr :=
  if rsvField w ≠ 0#3 then .error .reservedBits
  else match (opField w).toNat with
    | 1 => .ok (.configure (fieldsOf w))
    | 2 => .ok (decodeTransfer (fieldsOf w))
    | 3 => .ok (.waitReady (fieldsOf w))
    | 4 => .ok (.enableWrite (fieldsOf w))
    | 5 => .ok (.readDecode (fieldsOf w))
    | 6 => .ok (.releaseLatch (fieldsOf w))
    | 7 => .ok (.resetProtection (fieldsOf w))
    | 8 => .ok (.runRecovery (fieldsOf w))
    | _ => .error (.reservedOp (opField w))

/-- The request word with the given OP and fields and RSV = 0: `OP | ARG<<4 | AP<<12 | NW<<13 | NR<<21` (R85). -/
def requestWord (op : BitVec 4) (f : Fields) : Word :=
  op.setWidth 32 ||| (f.arg.setWidth 32 <<< 4) ||| (f.ap.setWidth 32 <<< 12) ||| (f.nw.setWidth 32 <<< 13) |||
    (f.nr.setWidth 32 <<< 21)

/-! ### Wire frames -/

/-- A byte's bits in the order of the wire, bit 7 on the first clock (R64, log entry 12). -/
def wireBits (b : Byte) : List Bool :=
  [b.getLsbD 7, b.getLsbD 6, b.getLsbD 5, b.getLsbD 4, b.getLsbD 3, b.getLsbD 2, b.getLsbD 1, b.getLsbD 0]

/-- The byte whose bits arrive most significant first (R64, R84). -/
def byteOfBits (bits : List Bool) : Byte :=
  BitVec.ofNat 8 (bits.foldl (fun n b => 2 * n + b.toNat) 0)

/-- The first byte of a bit sequence, and the bits after it. -/
def takeByte : List Bool → Option (Byte × List Bool)
  | b7 :: b6 :: b5 :: b4 :: b3 :: b2 :: b1 :: b0 :: rest => some (byteOfBits [b7, b6, b5, b4, b3, b2, b1, b0], rest)
  | _ => none

/-- The wire command at the head of the bits on D0, and the bits after it (R90). The flash knows a frame's length from its
opcode (R95): only 0x01 is followed by a payload byte. -/
def decodeFrame (bits : List Bool) : Except DecodeError (Instr × List Bool) :=
  match takeByte bits with
  | none => .error .truncated
  | some (opc, rest) =>
    match opc.toNat with
    | 0x05 => .ok (.rdsr1, rest)
    | 0x35 => .ok (.rdsr2, rest)
    | 0x15 => .ok (.rdsr3, rest)
    | 0x06 => .ok (.wren, rest)
    | 0x01 =>
      match takeByte rest with
      | none => .error .truncated
      | some (v, rest') => .ok (.wrsr1 v, rest')
    | _ => .error (.reservedOpcode opc)

/-- The instruction that an instruction's bits are: a request word, or exactly one frame. -/
def decode : Code → Except DecodeError Instr
  | .request w => decodeRequest w
  | .frame bits =>
    match decodeFrame bits with
    | .ok (i, []) => .ok i
    | .ok (_, _ :: _) => .error .trailingBits
    | .error e => .error e

/-! ### The encoder -/

/-- The bits of an instruction: R85 and R86 for a request, R98 for a pseudo row, R81, R83 and R90 for a frame. -/
def encode : Instr → Code
  | .configure f => .request (requestWord 0x1#4 f)
  | .transfer f => .request (requestWord 0x2#4 f)
  | .waitReady f => .request (requestWord 0x3#4 f)
  | .enableWrite f => .request (requestWord 0x4#4 f)
  | .readDecode f => .request (requestWord 0x5#4 f)
  | .releaseLatch f => .request (requestWord 0x6#4 f)
  | .resetProtection f => .request (requestWord 0x7#4 f)
  | .runRecovery f => .request (requestWord 0x8#4 f)
  | .rdsr1 => .frame (wireBits 0x05#8)
  | .rdsr2 => .frame (wireBits 0x35#8)
  | .rdsr3 => .frame (wireBits 0x15#8)
  | .wren => .frame (wireBits 0x06#8)
  | .wrsr1 v => .frame (wireBits 0x01#8 ++ wireBits v)
  | .transferRdsr1 => .request 0x00200052#32
  | .transferRdsr2 => .request 0x00200352#32
  | .transferRdsr3 => .request 0x00200152#32
  | .transferWren => .request 0x00000062#32
  | .transferWrsr1 => .request 0x00002012#32

/-! ### The opcode table's numbering -/

/-- The bits on D0 of the frame whose bytes, first byte in bits 7..0, are w: the opcode and one operand byte, which is
longer than any command but WRSR1 needs. -/
def frameBitsOfWord (w : Nat) : List Bool := wireBits (BitVec.ofNat 8 w) ++ wireBits (BitVec.ofNat 8 (w / 256))

/-- The instruction the decoder reads from an instruction of the table: 32 bits are a request word, one or two bytes are a
frame with the bits above `nbits` zero. -/
def decodeTableWord (nbits w : Nat) : Option Instr :=
  if nbits = 32 then (decodeRequest (BitVec.ofNat 32 w)).toOption
  else if nbits = 8 ∨ nbits = 16 then (decodeFrame (frameBitsOfWord (w % 2 ^ nbits))).toOption.map Prod.fst
  else none

end Sys2Proof
end

