-- ==== Sys2Proof/Config.lean ====
section
/-! DEFINITION. The implementation parameters of spec 00 R6, the board constants, and the model's free values.

A parameter whose value the spec fixes is a plain definition. A parameter that R6 leaves OPEN is a field of `Params`: the
step takes it from the state's read-only copy (R6: "A model takes each one as an argument"; log entry 2), and the copy that
`State.reset` holds is built from constants WITHOUT a body, so nothing can be proved about the board's choices.
A free value is likewise a constant without a body (log entries 3, 4 and 5). -/

namespace Sys2Proof.Config

/-- `RETRY_CEILING` = 10000 (R6): the status reads one readiness wait may issue. It fits RETRY's 14 bits (R32). -/
def retryCeiling : BitVec 14 := 10000#14

/-- `POLL_INTERVAL_MS` = 1 (R6, 90 C6): the wait between two readiness reads, in milliseconds. -/
def pollIntervalMs : Nat := 1

/-- ERR_STATUS of a malformed descriptor: the block's own code (R26, R111). -/
def malformedStatus : Word := 0xFFFFFFFF#32

/-- The four data lines D0..D3 (`N_DATA_LINES` = 4, R6, R33). -/
inductive DataLine where
  | d0 | d1 | d2 | d3
deriving DecidableEq, Repr, Inhabited

/-- `LATCH_LINE`: the data line RELEASE_LATCH remaps, one of D2 and D3 (R6, R204). -/
inductive LatchLine where
  | d2 | d3
deriving DecidableEq, Repr, Inhabited

/-- The data line that a latch line is. -/
def LatchLine.line : LatchLine → DataLine
  | .d2 => .d2
  | .d3 => .d3

/-- `LEGAL_AW`, the address widths the transport accepts. R7 bounds the set to multiples of 8 from 8 to 32, so it is one
Boolean for each of the four widths: a set that breaks R7 cannot be written (log entry 16). -/
structure LegalAw where
  w8  : Bool
  w16 : Bool
  w24 : Bool
  w32 : Bool
deriving DecidableEq, Repr, Inhabited

/-- Membership of an address width in `LEGAL_AW` (R142). -/
def LegalAw.admits (l : LegalAw) (aw : Word) : Bool :=
  (aw == 8#32 && l.w8) || (aw == 16#32 && l.w16) || (aw == 24#32 && l.w24) || (aw == 32#32 && l.w32)

/-- The three status registers of the flash (R15). -/
inductive SrName where
  | sr1 | sr2 | sr3
deriving DecidableEq, Repr, Inhabited

/-- A bit of one of the three status registers. -/
structure SrBit where
  reg : SrName
  bit : Fin 8
deriving DecidableEq, Repr, Inhabited

/-- The positions of the decoded fields (R181). BUSY is always SR1 bit 0, and WEL and the five BP bits always lie in SR1, so those
carry a bit number only. -/
structure SrPositions where
  wel  : Fin 8
  bp0  : Fin 8
  bp1  : Fin 8
  bp2  : Fin 8
  bp3  : Fin 8
  bp4  : Fin 8
  srp0 : SrBit
  srp1 : SrBit
  qe   : SrBit
  drv0 : SrBit
  drv1 : SrBit
deriving DecidableEq, Repr

/-- Every decoded field's bit, BUSY first. -/
def SrPositions.bits (l : SrPositions) : List SrBit :=
  [⟨.sr1, 0⟩, ⟨.sr1, l.wel⟩, ⟨.sr1, l.bp0⟩, ⟨.sr1, l.bp1⟩, ⟨.sr1, l.bp2⟩, ⟨.sr1, l.bp3⟩, ⟨.sr1, l.bp4⟩,
   l.srp0, l.srp1, l.qe, l.drv0, l.drv1]

/-- R181's last constraint: no two fields share a bit. -/
def SrPositions.disjoint (l : SrPositions) : Bool := decide l.bits.Nodup

/-- `SR_LAYOUT` (R181): positions that keep R181's four constraints. A layout in which two fields share a bit cannot be built
(log entry 16). -/
structure SrLayout extends SrPositions where
  noSharedBit : toSrPositions.disjoint = true
deriving DecidableEq, Repr

/-- The positions of R181's default layout. -/
def SrPositions.standard : SrPositions where
  wel := 1
  bp0 := 2
  bp1 := 3
  bp2 := 4
  bp3 := 5
  bp4 := 6
  srp0 := ⟨.sr1, 7⟩
  srp1 := ⟨.sr2, 0⟩
  qe := ⟨.sr2, 1⟩
  drv0 := ⟨.sr3, 5⟩
  drv1 := ⟨.sr3, 6⟩

/-- The default `SR_LAYOUT` of R181. -/
def SrLayout.standard : SrLayout := ⟨SrPositions.standard, by decide⟩

/-- The opaque pin identifiers `LINE_ID[D0..D3]`, `LINE_ID[CLK]` and `LINE_ID[CS]` (R6). -/
structure LineIds where
  d0  : Nat
  d1  : Nat
  d2  : Nat
  d3  : Nat
  clk : Nat
  cs  : Nat
deriving DecidableEq, Repr, Inhabited

/-- `LINE_ID[Dk]`. -/
def LineIds.data (l : LineIds) : DataLine → Nat
  | .d0 => l.d0
  | .d1 => l.d1
  | .d2 => l.d2
  | .d3 => l.d3

/-- The parameters of R6 whose value the spec leaves open or gives a default only. -/
structure Params where
  /-- `LEGAL_AW`. -/
  legalAw : LegalAw
  /-- `LEGAL_FREQ`: the set of accepted frequencies; FREQ is opaque and only compared (R28). -/
  legalFreq : List Word
  /-- `MAX_PAYLOAD` − 1: R6 bounds `MAX_PAYLOAD` to 1..255, so a value outside cannot be written. -/
  payloadExtra : Fin 255
  /-- `LATCH_LINE`. -/
  latchLine : LatchLine
  /-- `WEL_CHECK`. -/
  welCheck : Bool
  /-- `VERIFY_CHECK`. -/
  verifyCheck : Bool
  /-- `SR_LAYOUT`. -/
  srLayout : SrLayout
  /-- `BOARD_AW`, the address width a host asks for (R230, R294). -/
  boardAw : Byte
  /-- `BOARD_FREQ`, the frequency a host asks for (R230, R294). -/
  boardFreq : Word
  /-- `POLARITY_MODE`, opaque. -/
  polarityMode : Word
  /-- The pin identifiers, opaque. -/
  lineIds : LineIds
deriving DecidableEq, Repr

/-- `MAX_PAYLOAD`, from 1 to 255 (R6). -/
def Params.maxPayload (p : Params) : Nat := p.payloadExtra.val + 1

/-- Free value: the environment's n-th answer once the answers written into the state are used up. `BusFrame`'s status and
received bytes (R112), a rejected configuration's status (R142) and an operation's read of an unwritten operand (R49) are
draws; log entry 3. -/
opaque environmentDraw : Nat → Word

/-- Free value: what the host's n-th read gives when it reads storage that nothing has written (93 B1–B3); log entry 4. -/
opaque unwrittenRead : Nat → Word

/-- Free value: whether a host index that R22's formulas give to both buffers (possible when `MAX_PAYLOAD` > 64) names
TXBUF; log entry 6. -/
opaque overlapNamesTx : Nat → Bool

/-- The board's `LEGAL_AW` (OPEN, R6). -/
opaque legalAw : LegalAw

/-- The board's `LEGAL_FREQ` (OPEN, R6). -/
opaque legalFreq : List Word

/-- The board's `MAX_PAYLOAD` − 1 (OPEN, R6). -/
opaque payloadExtra : Fin 255

/-- The board's `BOARD_AW` (OPEN, R6). -/
opaque boardAw : Byte

/-- The board's `BOARD_FREQ` (OPEN, R6). -/
opaque boardFreq : Word

/-- The board's `POLARITY_MODE` (OPEN, opaque, R6). -/
opaque polarityMode : Word

/-- The board's pin identifiers (OPEN, opaque, R6). -/
opaque lineIds : LineIds

/-- The parameters of a block as R6 gives them: the OPEN ones are constants without a body, the ones with a default
(`LATCH_LINE`, `WEL_CHECK`, `VERIFY_CHECK`, `SR_LAYOUT`) stand at it (log entry 1). -/
def boardParams : Params where
  legalAw := legalAw
  legalFreq := legalFreq
  payloadExtra := payloadExtra
  latchLine := .d2
  welCheck := true
  verifyCheck := true
  srLayout := SrLayout.standard
  boardAw := boardAw
  boardFreq := boardFreq
  polarityMode := polarityMode
  lineIds := lineIds

end Sys2Proof.Config
end

