-- ==== Sys2Proof/Machine/State.lean ====
section
/-! DEFINITION. The state of the machine: every piece of state of spec 10 under its own name, the interface lists through which
the outside world reaches the block, and the reasons a step can stop. State is plain data.

The fields of the block itself are those of R49's table. The model's own fields (marked so below) carry the parameters, the
environment that answers frames and the activity of the host; no rule calls them block state, and a block reset leaves them
as they are. -/

namespace Sys2Proof.Machine

open Sys2Proof.Config

/-! ### Parts of the state -/

/-- A byte-wide memory: (index, byte) pairs with strictly rising indices. An index that is not listed is unwritten
(`Memory.unlisted`). TXBUF and RXBUF are memories keyed by host index (R60, R61). -/
abbrev Memory := List Host.Cell

/-- A 32-bit operand register and whether anything has written it since reset. R49 calls ADDR and FREQ unwritten at reset:
an operation that reads one unwritten reads a draw, whatever `value` holds (log entry 5). -/
structure HostReg where
  value   : Word
  written : Bool
deriving DecidableEq, Repr

/-- A register that nothing has written. -/
def HostReg.unwritten : HostReg := ⟨0#32, false⟩

/-- SNAP's three raw bytes (R29), and whether a READ_DECODE has written them since reset. -/
structure Snap where
  sr1     : Byte
  sr2     : Byte
  sr3     : Byte
  written : Bool
deriving DecidableEq, Repr

/-- STATUS (R24). The word a host reads is `Status.word`. -/
structure Status where
  active        : Bool
  configured    : Bool
  latchReleased : Bool
  snapValid     : Bool
  ovr           : Bool
  /-- The last non-terminal orchestrator state reached (R38). -/
  stage         : BitVec 3
  /-- The orchestrator state (R38). -/
  orch          : BitVec 3
deriving DecidableEq, Repr

/-- RESULT (R25). The word a host reads is `Result.word`. -/
structure Result where
  code        : BitVec 4
  op          : BitVec 4
  errOpc      : Byte
  errSr1      : Byte
  errOpcValid : Bool
  errSr1Valid : Bool
deriving DecidableEq, Repr

/-- CFG's AW field and CFG_FREQ (R31). -/
structure Cfg where
  aw   : Byte
  freq : Word
deriving DecidableEq, Repr

/-- The two-way selector of a data line (R201). -/
inductive LineRole where
  | bus
  | passiveIn
deriving DecidableEq, Repr

/-- LINES: the selector of each data line (R33). CLK and CS always have role BUS and have no selector. -/
structure LineRoles where
  d0 : LineRole
  d1 : LineRole
  d2 : LineRole
  d3 : LineRole
deriving DecidableEq, Repr

/-- `xfer_mode` (R42): NONE before a successful CONFIGURE, SINGLE after it. -/
inductive XferMode where
  | unset
  | single
deriving DecidableEq, Repr

/-- `lat`, the latched request (R37): the word and the copies of the operand registers. -/
structure Lat where
  word  : Word
  addr  : HostReg
  freq  : HostReg
  txbuf : Memory
deriving DecidableEq, Repr

/-- The command descriptor of a raw TRANSFER before its shape is checked (R110 line 2). -/
structure Descriptor where
  opc  : Byte
  addr : Option Word
  nw   : Nat
  nr   : Nat
deriving DecidableEq, Repr

/-- The local variables of the pseudocode of spec 40–47, which live from one line to a later one of the same operation. -/
structure Locals where
  sr1  : Byte
  b1   : Byte
  b2   : Byte
  b3   : Byte
  aw   : Word
  freq : Word
  cst  : Word
  desc : Descriptor
  tx   : List Byte
deriving DecidableEq, Repr

/-- The locals while no operation runs. -/
def Locals.clear : Locals where
  sr1 := 0#8
  b1 := 0#8
  b2 := 0#8
  b3 := 0#8
  aw := 0#32
  freq := 0#32
  cst := 0#32
  desc := ⟨0#8, none, 0, 0⟩
  tx := []

/-- The orchestrator's states (R38); the value 6 is reserved and has no name. -/
inductive Orch where
  | unconfigured
  | busConfigured
  | latchReleased
  | writeEnabledOnce
  | protectionCleared
  | verified
  | aborted
deriving DecidableEq, Repr

/-- The lines of the poll loop, WAIT_READY lines 4 to 9 (R151); line 9's jump back belongs to `wait`. -/
inductive PollLine where
  /-- Line 4: one RDSR1 frame. -/
  | read
  /-- Line 5: return when bit 0 reads clear. -/
  | ready
  /-- Line 6: count the attempt. -/
  | count
  /-- Line 7: time out when the budget is used up. -/
  | exhausted
  /-- Lines 8 and 9: wait, and go back to line 4. -/
  | wait
deriving DecidableEq, Repr

/-- The numbered lines of the operations' pseudocode that act (spec 40–47). Labels, sub-operation calls and a
sub-operation's `return OK` only move control and are no lines of their own in the flattened list (log entry 10). -/
inductive Line where
  /-- `if STATUS.CONFIGURED = 0: raise RequestRejected`: line 1 of six operations. -/
  | needConfigured
  /-- CONFIGURE line 1. -/
  | needUnconfigured
  /-- RELEASE_LATCH line 2. -/
  | needUnreleased
  /-- RUN_RECOVERY line 1. -/
  | needFresh
  /-- CONFIGURE line 2. -/
  | cfgOperands
  /-- CONFIGURE line 3. -/
  | cfgTransport
  /-- CONFIGURE line 4. -/
  | cfgEmit
  /-- CONFIGURE line 5. -/
  | cfgCheck
  /-- CONFIGURE line 6. -/
  | cfgRecord
  /-- TRANSFER line 2. -/
  | xferDescriptor
  /-- TRANSFER line 3. -/
  | xferCheck
  /-- TRANSFER line 4, its operand `MemRead(0x40, NW)`. -/
  | xferLoad
  /-- TRANSFER line 4, its frame. -/
  | xferFrame
  /-- WAIT_READY line 2. -/
  | loadRetry
  /-- WAIT_READY lines 3 to 9. -/
  | poll (p : PollLine)
  /-- ENABLE_WRITE line 3. -/
  | sendWren
  /-- ENABLE_WRITE line 5. -/
  | verifyRead
  /-- ENABLE_WRITE line 6. -/
  | verifyLatch
  /-- READ_DECODE line 2. -/
  | snapRead1
  /-- READ_DECODE line 3. -/
  | snapRead2
  /-- READ_DECODE line 4. -/
  | snapRead3
  /-- READ_DECODE line 5. -/
  | snapStore
  /-- RELEASE_LATCH line 3. -/
  | pinMode
  /-- RELEASE_LATCH line 4. -/
  | markReleased
  /-- RESET_PROTECTION line 4. -/
  | sendWrsr1
  /-- RUN_RECOVERY lines 3, 6, 8, 10 and 13: `set(o)`. -/
  | setOrch (o : Orch)
  /-- RUN_RECOVERY line 12. -/
  | verifyCleared
  /-- The outermost `return OK`. -/
  | endOk
deriving DecidableEq, Repr

/-- The events of the trace (R41). -/
inductive Event where
  /-- One CONFIGURE attempt handed to the transport. -/
  | cfg (aw : Word) (freq : Word) (ok : Bool)
  /-- One BusFrame. -/
  | frame (opc : Byte) (addr : Option Word) (tx : List Byte) (nr : Nat) (st : Word) (rx : List Byte)
  /-- One setPinMode call. -/
  | pin (line : DataLine) (mode : LineRole)
  /-- One call to the timing source. -/
  | wait (ms : Nat)
  /-- One accepted operation ended. -/
  | done (op : BitVec 4) (code : BitVec 4)
  /-- A REQ write was dropped. -/
  | drop (w : Word)
deriving DecidableEq, Repr

/-! ### The outside world (the model's own data) -/

/-- The width of a host access; R65 knows whole registers and bytes. -/
inductive Width where
  | byte
  | half
  | word
deriving DecidableEq, Repr

/-- What the outside world does to the block, in order. -/
inductive Act where
  /-- A host write of v to a register or buffer index. -/
  | write (index : Nat) (width : Width) (v : Word)
  /-- A host read. -/
  | read (index : Nat) (width : Width)
  /-- The host makes no access before the sequencer's next line. -/
  | pause
  /-- The end of a statement (R97): the host polls STATUS until ACTIVE = 0, reads RESULT, and stops when CODE ≠ 0. -/
  | await
  /-- Block reset (R290). -/
  | reset
  /-- The flash's own reset, an event of the environment (R137, R292). -/
  | chipReset
deriving DecidableEq, Repr

/-- The reference responder's state (R45) and its settings per vector (R131, R135); `none` as a count means forever
(log entry 24). -/
structure Responder where
  sr1       : Byte
  sr2       : Byte
  sr3       : Byte
  wel       : Bool
  busyLeft  : Option Nat
  pending   : Bool
  hwpIn     : Bool
  /-- B, the write busy count (R135). -/
  writeBusy : Option Nat
  /-- How many frames it has answered. -/
  frames    : Nat
  /-- (k, s): frame k, counting from 1, returns status s and has no flash-side effect (R131). -/
  injected  : List (Nat × Word)
deriving DecidableEq, Repr

/-- The environment that answers `BusFrame` (R112) and every other draw of the spec. With no responder the answers are draws,
any answers at all: the normative environment. With one, frames are answered as R130 says, which the test vectors use. -/
structure Env where
  responder : Option Responder
  /-- The next draws, in order (log entry 3). -/
  draws     : List Word
  /-- How many draws came from `Config.environmentDraw` once `draws` was empty (log entry 3). -/
  drawCount : Nat
deriving DecidableEq, Repr

/-! ### The state -/

/-- The machine's state. -/
structure State where
  /-- STATUS (R24). -/
  status : Status
  /-- RESULT (R25). -/
  result : Result
  /-- ERR_STATUS (R26). -/
  errStatus : Word
  /-- ADDR (R27). -/
  addr : HostReg
  /-- FREQ (R28). -/
  freq : HostReg
  /-- SNAP (R29). -/
  snap : Snap
  /-- CFG and CFG_FREQ (R31). -/
  cfg : Cfg
  /-- RETRY (R32). -/
  retry : BitVec 14
  /-- LINES, `line_role` (R33). -/
  lineRole : LineRoles
  /-- TXBUF, keyed by host index 0x40 + i (R34). -/
  txbuf : Memory
  /-- RXBUF, keyed by host index 0x80 + i (R35). -/
  rxbuf : Memory
  /-- `step`, the sequencer step pointer (R36): the flattened lines still to run, the next one first; `[]` is IDLE. -/
  ptr : List Line
  /-- `lat` (R37, log entry 17). -/
  lat : Lat
  /-- The running operation's local variables (log entry 17). -/
  locals : Locals
  /-- `trace` (R40), oldest first. -/
  trace : List Event
  /-- `xfer_mode` (R42). -/
  xferMode : XferMode
  /-- MODEL: the parameters of R6, read only; no step writes them (log entry 2). -/
  params : Params
  /-- MODEL: the environment (R44, R112). -/
  env : Env
  /-- MODEL: what the outside world will do, in order (log entry 7). -/
  port : List Act
  /-- MODEL: the values the host's reads have given, oldest first (log entry 20). -/
  readLog : List Word
  /-- MODEL: the calls `setPinMode(pin, mode)` the pin controller has received, oldest first (R207, log entry 20). -/
  pinCalls : List (Nat × LineRole)
deriving DecidableEq, Repr

/-- The block right after reset (R49, R290), as the board's parameters leave it, with no activity outside. Where R49 says
"unspecified" the register is marked unwritten and holds zero, which no operation and no host read ever gives back
(log entry 5). -/
def State.reset : State where
  status := ⟨false, false, false, false, false, 0#3, 0#3⟩
  result := ⟨0xF#4, 0#4, 0#8, 0#8, false, false⟩
  errStatus := 0#32
  addr := HostReg.unwritten
  freq := HostReg.unwritten
  snap := ⟨0#8, 0#8, 0#8, false⟩
  cfg := ⟨0#8, 0#32⟩
  retry := 0#14
  lineRole := ⟨.bus, .bus, .bus, .bus⟩
  txbuf := []
  rxbuf := []
  ptr := []
  lat := ⟨0#32, HostReg.unwritten, HostReg.unwritten, []⟩
  locals := Locals.clear
  trace := []
  xferMode := .unset
  params := boardParams
  env := ⟨none, [], 0⟩
  port := []
  readLog := []
  pinCalls := []

/-! ### Stops -/

/-- Why the machine stops with a fault. Both are unreachable from reset (log entry 23). -/
inductive Fault where
  /-- A host read of STATUS while ORCH holds the reserved value 6 (93 B11: "Reading it is a fault of the model"). Raised by
  `hostRead`. Safe: the machine stops. -/
  | reservedOrch
  /-- A host read of RESULT while CODE holds one of the reserved values 0x7–0xE (93 B10). Raised by `hostRead` and by the end
  of a host statement. Safe: the machine stops. -/
  | reservedCode
deriving DecidableEq, Repr

/-- Why the model refuses. -/
inductive Refusal where
  /-- An instruction without a meaning; raised by `exec` alone. Safe: the machine stops. -/
  | notModelled (mnemonic : String)
  /-- A host access outside the interface: a width the index does not take, or an index that is neither a multiple of 4 nor
  in a buffer (R65: "A model refuses it"). Raised by `hostRead` and `hostWrite`. Safe: the machine stops. -/
  | outsideInterface
deriving DecidableEq, Repr

end Sys2Proof.Machine
end

