-- ==== Sys2Proof/Machine/Flags.lean ====
section
/-! DEFINITION. Every flag and packed register view of the block: STATUS, RESULT, SNAP, LINES and DECODED as words (spec 10),
the tests on an SR1 byte (BUSY, WEL, protection), the status decoder's function (spec 44 R180–R184), the orchestrator's
numbers (R38) and the result codes (spec 60 R261). -/

namespace Sys2Proof.Machine

open Sys2Proof.Config

/-- A Boolean as bit i of a word. -/
def flagAt (b : Bool) (i : Nat) : Word := if b then 1#32 <<< i else 0#32

/-- STATUS as the host reads it (R24); bits [31:11] read as 0. -/
def Status.word (s : Status) : Word :=
  flagAt s.active 0 ||| flagAt s.configured 1 ||| flagAt s.latchReleased 2 ||| flagAt s.snapValid 3 ||| flagAt s.ovr 4 |||
    (s.stage.setWidth 32 <<< 5) ||| (s.orch.setWidth 32 <<< 8)

/-- RESULT as the host reads it (R25); bits [31:26] read as 0. -/
def Result.word (r : Result) : Word :=
  r.code.setWidth 32 ||| (r.op.setWidth 32 <<< 4) ||| (r.errOpc.setWidth 32 <<< 8) ||| (r.errSr1.setWidth 32 <<< 16) |||
    flagAt r.errOpcValid 24 ||| flagAt r.errSr1Valid 25

/-- SNAP as the host reads it (R29); bits [31:24] read as 0. -/
def snapWord (b1 b2 b3 : Byte) : Word :=
  b1.setWidth 32 ||| (b2.setWidth 32 <<< 8) ||| (b3.setWidth 32 <<< 16)

/-- LINES as the host reads it (R33): bit k is 1 when Dk is PASSIVE_IN; bits [31:4] read as 0. -/
def LineRoles.word (l : LineRoles) : Word :=
  flagAt (l.d0 == .passiveIn) 0 ||| flagAt (l.d1 == .passiveIn) 1 ||| flagAt (l.d2 == .passiveIn) 2 |||
    flagAt (l.d3 == .passiveIn) 3

/-- `line_role[Dk]`. -/
def LineRoles.get (l : LineRoles) : DataLine → LineRole
  | .d0 => l.d0
  | .d1 => l.d1
  | .d2 => l.d2
  | .d3 => l.d3

/-- `line_role[Dk] <- r`. -/
def LineRoles.set (l : LineRoles) (r : LineRole) : DataLine → LineRoles
  | .d0 => { l with d0 := r }
  | .d1 => { l with d1 := r }
  | .d2 => { l with d2 := r }
  | .d3 => { l with d3 := r }

/-! ### The orchestrator's states -/

/-- The number of an orchestrator state (R38). -/
def Orch.value : Orch → BitVec 3
  | .unconfigured => 0#3
  | .busConfigured => 1#3
  | .latchReleased => 2#3
  | .writeEnabledOnce => 3#3
  | .protectionCleared => 4#3
  | .verified => 5#3
  | .aborted => 7#3

/-- Verified and Aborted are terminal (R38, R236). -/
def Orch.terminal : Orch → Bool
  | .verified => true
  | .aborted => true
  | .unconfigured | .busConfigured | .latchReleased | .writeEnabledOnce | .protectionCleared => false

/-! ### Result codes -/

/-- The six error kinds (R260). -/
inductive ErrKind where
  | transportError
  | readinessTimeout
  | configurationFailure
  | writeEnableNotLatched
  | requestRejected
  | protectionStillSet
deriving DecidableEq, Repr

/-- RESULT.CODE of success (R261). -/
def okCode : BitVec 4 := 0x0#4

/-- RESULT.CODE of an error kind (R261). -/
def ErrKind.code : ErrKind → BitVec 4
  | .transportError => 0x1#4
  | .readinessTimeout => 0x2#4
  | .configurationFailure => 0x3#4
  | .writeEnableNotLatched => 0x4#4
  | .requestRejected => 0x5#4
  | .protectionStillSet => 0x6#4

/-- The codes 0x7 to 0xE are reserved (R261). -/
def reservedCode (c : BitVec 4) : Bool := decide (0x7#4 ≤ c) && decide (c ≤ 0xE#4)

/-! ### Tests on an SR1 byte -/

/-- BUSY: bit 0 of an SR1 byte (R151, R181). -/
def busy (sr1 : Byte) : Bool := sr1.getLsbD 0

/-- The WEL bit of an SR1 byte, where the layout puts it (R166). -/
def welSet (l : SrLayout) (sr1 : Byte) : Bool := sr1.getLsbD l.wel.val

/-- The SR1 bits a WRSR1 writes: all but BUSY and WEL (R135, R238). -/
def writableMask (l : SrLayout) : Byte := ~~~(1#8 ||| (1#8 <<< l.wel.val))

/-- `protected(b1)` (R238): an SR1 byte has a 1 in a bit that WRSR1 writes. -/
def stillProtected (l : SrLayout) (sr1 : Byte) : Bool := sr1 &&& writableMask l != 0#8

/-! ### The status decoder -/

/-- The decoded fields of a snapshot (R180). -/
structure Decoded where
  busy : Bool
  wel  : Bool
  bp   : BitVec 5
  srp0 : Bool
  srp1 : Bool
  qe   : Bool
  drv  : BitVec 2
deriving DecidableEq, Repr

/-- The value of one bit of the three status registers. -/
def readSrBit (p : SrBit) (b1 b2 b3 : Byte) : Bool :=
  match p.reg with
  | .sr1 => b1.getLsbD p.bit.val
  | .sr2 => b2.getLsbD p.bit.val
  | .sr3 => b3.getLsbD p.bit.val

/-- `decode(b1, b2, b3)` under a layout (R181, R182). -/
def decodeStatus (l : SrLayout) (b1 b2 b3 : Byte) : Decoded where
  busy := busy b1
  wel := welSet l b1
  bp := BitVec.ofNat 5 ((b1.getLsbD l.bp0.val).toNat + 2 * (b1.getLsbD l.bp1.val).toNat + 4 * (b1.getLsbD l.bp2.val).toNat
    + 8 * (b1.getLsbD l.bp3.val).toNat + 16 * (b1.getLsbD l.bp4.val).toNat)
  srp0 := readSrBit l.srp0 b1 b2 b3
  srp1 := readSrBit l.srp1 b1 b2 b3
  qe := readSrBit l.qe b1 b2 b3
  drv := BitVec.ofNat 2 ((readSrBit l.drv0 b1 b2 b3).toNat + 2 * (readSrBit l.drv1 b1 b2 b3).toNat)

/-- DECODED as the host reads it (R30); bits [31:12] read as 0. -/
def Decoded.word (d : Decoded) : Word :=
  flagAt d.busy 0 ||| flagAt d.wel 1 ||| (d.bp.setWidth 32 <<< 2) ||| flagAt d.srp0 7 ||| flagAt d.srp1 8 |||
    flagAt d.qe 9 ||| (d.drv.setWidth 32 <<< 10)

end Sys2Proof.Machine
end

