-- ==== Sys2Proof/Machine/Memory.lean ====
section
/-! DEFINITION. The payload-buffer memories: one byte at an index, runs of bytes (`MemRead` and `MemWrite`, spec 20 R61), and the
canonical form. -/

namespace Sys2Proof.Machine

/-- What an index that nothing has written reads as: no value. R49 calls TXBUF and RXBUF unwritten at reset, so whoever reads
such a byte gets a draw (log entry 5). -/
def Memory.unlisted : Option Byte := none

/-- The byte at an index, if it has been written. -/
def Memory.read : Memory → Nat → Option Byte
  | [], _ => Memory.unlisted
  | (a, b) :: m, i => if i = a then some b else Memory.read m i

/-- The memory with one byte written, in its place in the rising order. -/
def Memory.write : Memory → Nat → Byte → Memory
  | [], i, v => [(i, v)]
  | (a, b) :: m, i, v =>
    if i < a then (i, v) :: (a, b) :: m
    else if i = a then (i, v) :: m
    else (a, b) :: Memory.write m i v

/-- `MemWrite(i, n, v)` (R61): the bytes of v at i, i + 1, …, the first at i. -/
def Memory.writeBytes : Memory → Nat → List Byte → Memory
  | m, _, [] => m
  | m, i, v :: vs => Memory.writeBytes (m.write i v) (i + 1) vs

/-- Every listed index is above a. -/
def Memory.above (a : Nat) : Memory → Bool
  | [] => true
  | (b, _) :: m => decide (a < b) && Memory.above b m

/-- The canonical form: the listed indices strictly rise. An unlisted index has no value, so no entry can repeat one. -/
def Memory.wf : Memory → Bool
  | [] => true
  | (a, _) :: m => Memory.above a m

end Sys2Proof.Machine
end

