-- ==== Sys2Proof/Machine/Ops.lean ====
section
/-! DEFINITION. The named operations over the state that every family uses: draws of the environment, the trace, the step
pointer, the orchestrator's `set`, the end of an operation (the block's trap entry, spec 30 R89 and 60 R263), the acceptance
of a request (R88) and the block reset (R290). -/

namespace Sys2Proof.Machine

open Sys2Proof.Config

/-! ### Draws -/

/-- The environment's next draw: the next word written into the state, else the next free value (log entry 3). -/
def Env.draw (e : Env) : Word × Env :=
  match e.draws with
  | d :: ds => (d, { e with draws := ds })
  | [] => (environmentDraw e.drawCount, { e with drawCount := e.drawCount + 1 })

/-- n bytes of the environment, each the low byte of a draw. -/
def Env.drawBytes : Nat → Env → List Byte × Env
  | 0, e => ([], e)
  | n + 1, e => (e.draw.1.setWidth 8 :: (Env.drawBytes n e.draw.2).1, (Env.drawBytes n e.draw.2).2)

/-- A draw made non-zero (R142): every non-zero word is the image of some draw, so no value is chosen
(log entry 14). -/
def nonZero (d : Word) : Word := if d = 0#32 then 1#32 else d

/-! ### The trace and the step pointer -/

/-- `emit(ev)` (R11): append an event to the trace. -/
def State.emit (s : State) (e : Event) : State := { s with trace := s.trace ++ [e] }

/-- The pointer one line on: in the poll loop the next line of the loop (line 9 goes back to line 4, R151), elsewhere the
rest of the flattened list. -/
def nextLines : List Line → List Line
  | .poll .read :: rest => .poll .ready :: rest
  | .poll .ready :: rest => .poll .count :: rest
  | .poll .count :: rest => .poll .exhausted :: rest
  | .poll .exhausted :: rest => .poll .wait :: rest
  | .poll .wait :: rest => .poll .read :: rest
  | _ :: rest => rest
  | [] => []

/-- The step pointer advances by one line (R36). -/
def State.advance (s : State) : State := { s with ptr := nextLines s.ptr }

/-- The operation or sub-operation returns from the poll loop: the pointer leaves the loop (R151 line 5). -/
def State.leaveLoop (s : State) : State := { s with ptr := s.ptr.tail }

/-- `set(o)` on STATUS (R38, R232): ORCH takes the state, and STAGE too when the state is not terminal. -/
def Status.setOrch (st : Status) (o : Orch) : Status :=
  { st with orch := o.value, stage := if o.terminal then st.stage else o.value }

/-- `set(o)` (R232). -/
def State.setOrch (s : State) (o : Orch) : State := { s with status := s.status.setOrch o }

/-! ### The end of an operation -/

/-- Error information (R89): what RESULT and ERR_STATUS record of a failure. -/
structure ErrInfo where
  opc    : Option Byte
  sr1    : Option Byte
  status : Option Word
deriving DecidableEq, Repr

/-- `none`: nothing recorded. -/
def ErrInfo.nothing : ErrInfo := ⟨none, none, none⟩

/-- The OP field of the latched request. -/
def State.latOp (s : State) : BitVec 4 := opField s.lat.word

/-- `end_op(code, info)` (R89, R263): RESULT is written, ERR_STATUS where the failure has a status, `Done` is emitted, the
pointer is IDLE and ACTIVE is 0. The locals of the operation are gone. -/
def endOp (code : BitVec 4) (info : ErrInfo) (s : State) : State :=
  { s with
    result :=
      { code := code
        op := s.latOp
        errOpc := info.opc.getD 0#8
        errSr1 := info.sr1.getD 0#8
        errOpcValid := info.opc.isSome
        errSr1Valid := info.sr1.isSome }
    errStatus := info.status.getD s.errStatus
    trace := s.trace ++ [.done s.latOp code]
    ptr := []
    locals := Locals.clear
    status := { s.status with active := false } }

/-- The orchestrator's part of an error (R234): inside RUN_RECOVERY it is set to Aborted; elsewhere nothing. -/
def abortRecovery (s : State) : State :=
  { s with status := if s.latOp = 0x8#4 then s.status.setOrch .aborted else s.status }

/-- `raise E(info)` at any call depth (R12, R89, R264): the outermost operation ends with E's code, the orchestrator aborting
first inside RUN_RECOVERY (R232, R234). RUN_RECOVERY's line 1, which aborts nothing, ends the operation by `reject`. -/
def raise (k : ErrKind) (info : ErrInfo) (s : State) : State := endOp k.code info (abortRecovery s)

/-- RequestRejected without an abort: an operation's line 1, and a reserved word (R88, R232 line 1). -/
def reject (s : State) : State := endOp ErrKind.requestRejected.code ErrInfo.nothing s

/-- `return OK` of the outermost operation (R89). -/
def finish (s : State) : State := endOp okCode ErrInfo.nothing s

/-! ### Acceptance and reset -/

/-- A REQ write while ACTIVE = 1 (R88): dropped, with OVR set and a `Drop` event. -/
def dropRequest (w : Word) (s : State) : State :=
  { s with status := { s.status with ovr := true }, trace := s.trace ++ [.drop w] }

/-- Acceptance of a request word while ACTIVE = 0 (R88): the operands are latched, OVR is cleared, ACTIVE is set and the
pointer stands at the operation's first line. -/
def accept (w : Word) (lines : List Line) (s : State) : State :=
  { s with
    lat := ⟨w, s.addr, s.freq, s.txbuf⟩
    status := { s.status with ovr := false, active := true }
    ptr := lines
    locals := Locals.clear }

/-- A reserved request word (R88, R93): accepted, and ended at once with RequestRejected; while ACTIVE = 1 it is dropped like
any other word. -/
def reserved (w : Word) (s : State) : State :=
  if s.status.active then dropRequest w s else reject (accept w [] s)

/-- Block reset (R290): every item of block state takes its reset value; the outside world's data and the parameters (R293)
stay. A reset that cuts an operation short leaves the flash in a state nothing predicts (R292), so the reference responder
no longer answers for it (log entry 13). -/
def blockReset (s : State) : State :=
  { State.reset with
    params := s.params
    env := if s.status.active then { s.env with responder := none } else s.env
    port := s.port
    readLog := s.readLog
    pinCalls := s.pinCalls }

end Sys2Proof.Machine
end

