-- ==== Sys2Proof/Machine/HostPort.lean ====
section
/-! DEFINITION. The host port: which register or buffer an index names (spec 10 R22), host writes and reads (R23–R35, R46, spec 20
R65), and what the outside world does before the sequencer's next line. -/

namespace Sys2Proof.Machine

open Sys2Proof.Config

/-- What a host index names (R22). -/
inductive HostIndex where
  | req | addr | freq | status | result | errStatus | snap | decoded | cfg | cfgFreq | retry | lines
  /-- TXBUF, at this index. -/
  | tx
  /-- RXBUF, at this index. -/
  | rx
  /-- A multiple of 4 that the table does not list: reads 0, writes have no effect. -/
  | reserved
  /-- No index of the interface (R65). -/
  | outside
deriving DecidableEq, Repr

/-- The index lies in TXBUF: 0x40 + i with i < MAX_PAYLOAD. -/
def inTx (p : Params) (i : Nat) : Bool := decide (0x40 ≤ i) && decide (i < 0x40 + p.maxPayload)

/-- The index lies in RXBUF: 0x80 + i with i < MAX_PAYLOAD. -/
def inRx (p : Params) (i : Nat) : Bool := decide (0x80 ≤ i) && decide (i < 0x80 + p.maxPayload)

/-- The 32-bit registers' indices, and the reserved ones among 0x00–0xFF (R22, R60; above them see log entry 11). -/
def registerAt (i : Nat) : HostIndex :=
  if 0x100 ≤ i ∨ i % 4 ≠ 0 then .outside
  else match i with
    | 0x00 => .req
    | 0x04 => .addr
    | 0x08 => .freq
    | 0x0C => .status
    | 0x10 => .result
    | 0x14 => .errStatus
    | 0x18 => .snap
    | 0x1C => .decoded
    | 0x20 => .cfg
    | 0x24 => .cfgFreq
    | 0x28 => .retry
    | 0x2C => .lines
    | _ => .reserved

/-- What an index names. R22's formulas give some indices to both buffers when MAX_PAYLOAD > 64; which buffer such an index
names is a free value (log entry 6). -/
def hostIndex (p : Params) (i : Nat) : HostIndex :=
  if inTx p i then
    if inRx p i then (if overlapNamesTx i then .tx else .rx) else .tx
  else if inRx p i then .rx
  else registerAt i

/-- The width an index takes: a byte in the buffers, the whole word elsewhere (R65). -/
def HostIndex.width : HostIndex → Width
  | .tx | .rx => .byte
  | .req | .addr | .freq | .status | .result | .errStatus | .snap | .decoded | .cfg | .cfgFreq | .retry | .lines
  | .reserved | .outside => .word

/-- The access is in the interface (R65). -/
def HostIndex.admits (k : HostIndex) (wd : Width) : Bool := k != .outside && k.width == wd

/-! ### Writes -/

/-- A host write that is no acceptance of a request: to ADDR, FREQ or TXBUF it sets the whole register or byte (R46), to REQ
while ACTIVE = 1 it is dropped (R88), to a read-only or reserved index it has no effect (R22, R46). Acceptance itself, a REQ
write while ACTIVE = 0, is the step's. A byte write takes the low eight bits (log entry 26). -/
def writeIndex (k : HostIndex) (i : Nat) (v : Word) (s : State) : State :=
  match k with
  | .req => if s.status.active then dropRequest v s else s
  | .addr => { s with addr := ⟨v, true⟩ }
  | .freq => { s with freq := ⟨v, true⟩ }
  | .tx => { s with txbuf := s.txbuf.write i (v.setWidth 8) }
  | .status | .result | .errStatus | .snap | .decoded | .cfg | .cfgFreq | .retry | .lines | .rx | .reserved | .outside => s

/-- A host write; outside the interface it is refused (R65). -/
def hostWrite (i : Nat) (wd : Width) (v : Word) (s : State) : Host.Outcome State Fault Refusal :=
  if (hostIndex s.params i).admits wd then .next (writeIndex (hostIndex s.params i) i v s)
  else .refused .outsideInterface

/-! ### Reads -/

/-- What the next host read of unwritten storage gives: any value (93 B1–B3), fresh for each read (log entry 4). -/
def State.openRead (s : State) : Word := unwrittenRead s.readLog.length

/-- A 32-bit operand register as the host reads it. -/
def State.readReg (s : State) (r : HostReg) : Word := if r.written then r.value else s.openRead

/-- A buffer byte as the host reads it, zero-extended (log entry 26). -/
def State.readByte (s : State) (m : Memory) (i : Nat) : Word :=
  match m.read i with
  | some b => b.setWidth 32
  | none => (s.openRead.setWidth 8).setWidth 32

/-- SNAP's three bytes as the host reads them: the stored bytes, open before the first READ_DECODE (R29, 93 B3;
log entry 25). -/
def State.snapBytes (s : State) : Byte × Byte × Byte :=
  if s.snap.written then (s.snap.sr1, s.snap.sr2, s.snap.sr3)
  else (s.openRead.extractLsb' 0 8, s.openRead.extractLsb' 8 8, s.openRead.extractLsb' 16 8)

/-- The value a host read of an index gives (R22–R35). DECODED is computed from SNAP (R30). -/
def State.readIndex (s : State) (k : HostIndex) (i : Nat) : Word :=
  match k with
  | .req => 0#32
  | .addr => s.readReg s.addr
  | .freq => s.readReg s.freq
  | .status => s.status.word
  | .result => s.result.word
  | .errStatus => s.errStatus
  | .snap => snapWord s.snapBytes.1 s.snapBytes.2.1 s.snapBytes.2.2
  | .decoded => (decodeStatus s.params.srLayout s.snapBytes.1 s.snapBytes.2.1 s.snapBytes.2.2).word
  | .cfg => s.cfg.aw.setWidth 32
  | .cfgFreq => s.cfg.freq
  | .retry => s.retry.setWidth 32
  | .lines => s.lineRole.word
  | .tx => s.readByte s.txbuf i
  | .rx => s.readByte s.rxbuf i
  | .reserved => 0#32
  | .outside => 0#32

/-- The read value reaches the host; no block state changes (R46). -/
def State.logRead (s : State) (v : Word) : State := { s with readLog := s.readLog ++ [v] }

/-- A host read; outside the interface it is refused (R65), and a reserved ORCH or CODE value is a fault (93 B10, B11). -/
def hostRead (i : Nat) (wd : Width) (s : State) : Host.Outcome State Fault Refusal :=
  if (hostIndex s.params i).admits wd then
    if hostIndex s.params i = .status ∧ s.status.orch = 6#3 then .fault .reservedOrch
    else if hostIndex s.params i = .result ∧ reservedCode s.result.code then .fault .reservedCode
    else .next (s.logRead (s.readIndex (hostIndex s.params i) i))
  else .refused .outsideInterface

/-! ### The outside world's acts -/

/-- The flash's own reset: in the reference responder WEL and the busy state clear and SR1 keeps its bits (R137); the
normative environment's answers are draws in any case. -/
def chipReset (s : State) : State :=
  { s with
    env :=
      { s.env with
        responder := s.env.responder.map fun r => { r with wel := false, busyLeft := some 0, pending := false } } }

/-- The end of a host statement while ACTIVE = 0 (R97): the host reads RESULT, and its program stops when CODE ≠ 0
(log entry 22). -/
def finishStatement (s : State) : Host.Outcome State Fault Refusal :=
  if reservedCode s.result.code then .fault .reservedCode
  else if s.result.code = okCode then .next (s.logRead s.result.word)
  else .next { s.logRead s.result.word with port := [] }

/-- What the outside world does while an operation runs, before the sequencer's next line: the acts up to the next `pause`.
A block reset ends the operation, so the acts after it wait; the end of a statement waits for ACTIVE = 0; an access that
the model refuses, or that faults, waits until the block is idle and stops the machine there (log entry 7). -/
def deliver : List Act → State → State
  | [], s => { s with port := [] }
  | .pause :: rest, s => { s with port := rest }
  | .await :: rest, s => { s with port := .await :: rest }
  | .reset :: rest, s => { blockReset s with port := rest }
  | .chipReset :: rest, s => deliver rest (chipReset s)
  | .write i wd v :: rest, s =>
    match hostWrite i wd v s with
    | .next s' => deliver rest s'
    | .fault _ | .refused _ => { s with port := .write i wd v :: rest }
  | .read i wd :: rest, s =>
    match hostRead i wd s with
    | .next s' => deliver rest s'
    | .fault _ | .refused _ => { s with port := .read i wd :: rest }

end Sys2Proof.Machine
end

