-- ==== Sys2Proof/Machine/Operands.lean ====
section
/-! DEFINITION. Operand assembly (spec 30 R87, R96): the fields of the latched word, the latched operand registers, and
`MemRead(0x40, NW)` over the latched TXBUF. An operand that no host write has set reads as a draw (R27, R28, R49). -/

namespace Sys2Proof.Machine

open Sys2Proof.Config

/-- The operand fields of the latched request word (R85, R87). -/
def State.latFields (s : State) : Fields := fieldsOf s.lat.word

/-- The address width of CONFIGURE and RUN_RECOVERY: `aw = zext_32(ARG)` (R87). -/
def State.awOperand (s : State) : Word := s.latFields.arg.setWidth 32

/-- A latched 32-bit operand: its value if the host wrote it, else a draw of the environment. -/
def readOperand (r : HostReg) (e : Env) : Word × Env := if r.written then (r.value, e) else e.draw

/-- `lat.ADDR` of a TRANSFER with AP = 1 (R110 line 2), none with AP = 0. -/
def addrOperand (f : Fields) (r : HostReg) (e : Env) : Option Word × Env :=
  if f.ap = 1#1 then (some (readOperand r e).1, (readOperand r e).2) else (none, e)

/-- `a[w-1:0]`: the low w bits of a word; the address phase sends `lat.ADDR[ADDR_W-1:0]` (R82, R87). -/
def lowBits (a : Word) (w : Nat) : Word := BitVec.ofNat 32 (a.toNat % 2 ^ w)

/-- One byte of a payload memory; an unwritten one is a draw. -/
def readPayload (m : Memory) (i : Nat) (e : Env) : Byte × Env :=
  match m.read i with
  | some b => (b, e)
  | none => (e.draw.1.setWidth 8, e.draw.2)

/-- `MemRead(i, n)` over a payload memory (R61): the bytes at i, i + 1, … in that order. -/
def memRead (m : Memory) : Nat → Nat → Env → List Byte × Env
  | _, 0, e => ([], e)
  | i, n + 1, e =>
    ((readPayload m i e).1 :: (memRead m (i + 1) n (readPayload m i e).2).1,
      (memRead m (i + 1) n (readPayload m i e).2).2)

end Sys2Proof.Machine
end

