-- ==== Sys2Proof/Machine/Transport.lean ====
section
/-! DEFINITION. The bus transport (spec 40, spec 30 R80–R84, R90–R95): wire frames, their bits and length in clocks, the admitted
shapes, the environment that answers a frame, the one frame helper `xfer` (R113), and the lines of TRANSFER (R110). -/

namespace Sys2Proof.Machine

open Sys2Proof.Config

/-! ### Frames -/

/-- One command descriptor on the bus (R80). -/
structure WireFrame where
  opc  : Byte
  addr : Option Word
  tx   : List Byte
  nr   : Nat
deriving DecidableEq, Repr

/-- Status register 1, 2 and 3 reads, write-enable, and the write of status register 1 (R90, R118–R122). -/
def rdsr1Frame : WireFrame := ⟨0x05#8, none, [], 1⟩
def rdsr2Frame : WireFrame := ⟨0x35#8, none, [], 1⟩
def rdsr3Frame : WireFrame := ⟨0x15#8, none, [], 1⟩
def wrenFrame : WireFrame := ⟨0x06#8, none, [], 0⟩
def wrsr1Frame (v : Byte) : WireFrame := ⟨0x01#8, none, [v], 0⟩

/-- The one admitted shape (NW, NR) of each admitted opcode, none of which takes an address (R90, R91). -/
def shapeOf (opc : Byte) : Option (Nat × Nat) :=
  match opc.toNat with
  | 0x05 => some (0, 1)
  | 0x35 => some (0, 1)
  | 0x15 => some (0, 1)
  | 0x06 => some (0, 0)
  | 0x01 => some (1, 0)
  | _ => none

/-- The frame is one of the five wire commands (R90: "exactly these five rows"). -/
def WireFrame.admitted (f : WireFrame) : Bool :=
  decide (f.addr = none) && decide (shapeOf f.opc = some (f.tx.length, f.nr))

/-- The low n bytes of a word on the wire, most significant byte first (R63, R82). -/
def addressBits (a : Word) : Nat → List Bool
  | 0 => []
  | n + 1 => wireBits (a.extractLsb' (8 * n) 8) ++ addressBits a n

/-- The bits the block puts on D0 over a frame, in the order of the clocks: opcode, address of `ADDR_W` bits, write payload
(R80–R83). The level of D0 during the read payload is open and ignored by the flash (R84, 93 B5). -/
def WireFrame.outBits (f : WireFrame) (addrW : Nat) : List Bool :=
  wireBits f.opc ++ (match f.addr with | some a => addressBits a (addrW / 8) | none => []) ++ f.tx.flatMap wireBits

/-- A frame's length in clocks: `8 + (AP ? ADDR_W : 0) + 8·(NW + NR)` (R95). -/
def WireFrame.clocks (f : WireFrame) (addrW : Nat) : Nat :=
  8 + (if f.addr.isSome then addrW else 0) + 8 * (f.tx.length + f.nr)

/-- The bytes assembled from the bits on D1, each most significant bit first, in arrival order (R84). -/
def bytesOfBits : Nat → List Bool → List Byte
  | 0, _ => []
  | n + 1, bits =>
    match takeByte bits with
    | some (b, rest) => b :: bytesOfBits n rest
    | none => []

/-! ### The environment's answers -/

/-- The status and the received bytes of a frame. -/
structure Reply where
  st : Word
  rx : List Byte
deriving DecidableEq, Repr

/-- The byte with bit i set to a value. -/
def setBit (b : Byte) (i : Nat) (v : Bool) : Byte := if v then b ||| (1#8 <<< i) else b &&& ~~~(1#8 <<< i)

/-- The reference flash is idle: no further busy read is due. -/
def Responder.idle (r : Responder) : Bool := decide (r.busyLeft = some 0)

/-- The reference answer to RDSR1 (R132). -/
def Responder.sr1Answer (l : SrLayout) (r : Responder) : Byte :=
  setBit (setBit r.sr1 0 (!r.idle)) l.wel.val r.wel

/-- The busy count advances after an RDSR1, and a pending write completes when it reaches 0 (R132). -/
def Responder.afterPoll (r : Responder) : Responder :=
  match r.busyLeft with
  | none => r
  | some 0 => r
  | some 1 => if r.pending then { r with busyLeft := some 0, wel := false, pending := false } else { r with busyLeft := some 0 }
  | some (n + 2) => { r with busyLeft := some (n + 1) }

/-- The reference effect of WREN (R134). -/
def Responder.afterWren (r : Responder) : Responder := if r.idle then { r with wel := true } else r

/-- The reference effect of WRSR1 v, `hwp` saying whether hardware protection is asserted (R135). -/
def Responder.afterWrsr1 (l : SrLayout) (hwp : Bool) (v : Byte) (r : Responder) : Responder :=
  if r.idle && r.wel && !hwp then
    let sr1 := (r.sr1 &&& ~~~(writableMask l)) ||| (v &&& writableMask l)
    if r.writeBusy = some 0 then { r with sr1 := sr1, wel := false }
    else { r with sr1 := sr1, busyLeft := r.writeBusy, pending := true }
  else r

/-- The status injected into the frame the responder answers next (R131); 0 where none is. -/
def Responder.injectedStatus (r : Responder) : Word :=
  (r.injected.find? fun e => decide (e.1 = r.frames + 1)).elim 0#32 Prod.snd

/-- The reference responder's answer to a frame (R131–R136). -/
def Responder.answer (l : SrLayout) (latchRole : LineRole) (f : WireFrame) (r : Responder) : Reply × Responder :=
  let n := { r with frames := r.frames + 1 }
  if r.injectedStatus ≠ 0#32 then (⟨r.injectedStatus, []⟩, n)
  else match f.opc.toNat with
    | 0x05 => (⟨0#32, [r.sr1Answer l]⟩, n.afterPoll)
    | 0x35 => (⟨0#32, [r.sr2]⟩, n)
    | 0x15 => (⟨0#32, [r.sr3]⟩, n)
    | 0x06 => (⟨0#32, []⟩, n.afterWren)
    | 0x01 => (⟨0#32, []⟩, n.afterWrsr1 l (decide (latchRole = .bus) && r.hwpIn) (f.tx.headD 0#8))
    | _ => (⟨0#32, []⟩, n)

/-- `line_role[LATCH_LINE]`. -/
def State.latchRole (s : State) : LineRole := s.lineRole.get s.params.latchLine.line

/-- `BusFrame` (R112): the environment's status and, when it is 0, `nr` bytes, assembled from the bits on D1 (R84). In the
normative environment both are draws. -/
def busFrame (p : Params) (latchRole : LineRole) (f : WireFrame) (e : Env) : Reply × Env :=
  match e.responder with
  | none =>
    if e.draw.1 = 0#32 then
      (⟨0#32, bytesOfBits f.nr ((Env.drawBytes f.nr e.draw.2).1.flatMap wireBits)⟩, (Env.drawBytes f.nr e.draw.2).2)
    else (⟨e.draw.1, []⟩, e.draw.2)
  | some r =>
    ((r.answer p.srLayout latchRole f).1, { e with responder := some (r.answer p.srLayout latchRole f).2 })

/-- The environment's reply to a frame sent now. -/
def State.reply (s : State) (f : WireFrame) : Reply := (busFrame s.params s.latchRole f s.env).1

/-- The environment after it has answered a frame sent now. -/
def State.envAfter (s : State) (f : WireFrame) : Env := (busFrame s.params s.latchRole f s.env).2

/-! ### The frame helper -/

/-- WREN and WRSR1 frames stale the snapshot, whatever their status (R116). -/
def Status.stale (f : WireFrame) (st : Status) : Status :=
  { st with snapValid := st.snapValid && !(f.opc == 0x06#8 || f.opc == 0x01#8) }

/-- The line is one of READ_DECODE's three reads. -/
def Line.readsSnapshot : Line → Bool
  | .snapRead1 | .snapRead2 | .snapRead3 => true
  | .needConfigured | .needUnconfigured | .needUnreleased | .needFresh | .cfgOperands | .cfgTransport | .cfgEmit
  | .cfgCheck | .cfgRecord | .xferDescriptor | .xferCheck | .xferLoad | .xferFrame | .loadRetry | .poll _ | .sendWren
  | .verifyRead | .verifyLatch | .snapStore | .pinMode | .markReleased | .sendWrsr1 | .setOrch _ | .verifyCleared
  | .endOk => false

/-- A frame that fails at a line of READ_DECODE clears SNAP_VALID (R188, log entry 27). -/
def Status.dropped (lines : List Line) (st : Status) : Status :=
  { st with snapValid := st.snapValid && !((lines.head?.map Line.readsSnapshot).getD false) }

/-- Where the line that sent a read frame keeps the first byte received: `sr1`, `b1`, `b2` or `b3` of its pseudocode. -/
def Locals.keep (lines : List Line) (rx : List Byte) (l : Locals) : Locals :=
  match lines, rx with
  | .poll .read :: _, b :: _ => { l with sr1 := b }
  | .verifyRead :: _, b :: _ => { l with sr1 := b }
  | .snapRead1 :: _, b :: _ => { l with b1 := b }
  | .snapRead2 :: _, b :: _ => { l with b2 := b }
  | .snapRead3 :: _, b :: _ => { l with b3 := b }
  | _, _ => l

/-- The frame's event (R113): rx is empty when st ≠ 0. -/
def frameEvent (f : WireFrame) (r : Reply) : Event :=
  .frame f.opc f.addr f.tx f.nr r.st (if r.st = 0#32 then r.rx else [])

/-- A frame has been on the bus (R113): its event is in the trace, and a write command has staled the snapshot. -/
def frameSent (f : WireFrame) (r : Reply) (s : State) : State :=
  { s with trace := s.trace ++ [frameEvent f r], status := s.status.stale f }

/-- A frame has failed (R113, R188): the operation ends with TransportError. -/
def frameFailed (f : WireFrame) (r : Reply) (s : State) : State :=
  raise .transportError ⟨some f.opc, none, some r.st⟩ { s with status := s.status.dropped s.ptr }

/-- A frame has succeeded: the received bytes go to RXBUF from its first element on (`MemWrite(0x80, nr, rx)`, R114) and to the
line that asked for them, and the pointer advances. -/
def frameDone (r : Reply) (s : State) : State :=
  { s with
    rxbuf := s.rxbuf.writeBytes 0x80 r.rx
    locals := s.locals.keep s.ptr r.rx
    ptr := nextLines s.ptr }

/-- What follows a frame's reply (R113). -/
def afterFrame (f : WireFrame) (r : Reply) (s : State) : State :=
  if r.st = 0#32 then frameDone r (frameSent f r s) else frameFailed f r (frameSent f r s)

/-- `xfer` (R113). It is called only with a configured transport and an admitted frame (R111, R112); were it called without,
it would end the operation as the callers' own checks do, sending nothing (log entry 9). -/
def xfer (f : WireFrame) (s : State) : State :=
  if s.xferMode ≠ .single then raise .requestRejected ErrInfo.nothing s
  else if !f.admitted then raise .transportError ⟨some f.opc, none, some malformedStatus⟩ s
  else afterFrame f (s.reply f) { s with env := s.envAfter f }

/-! ### The lines of TRANSFER -/

/-- `if STATUS.CONFIGURED = 0: raise RequestRejected` (line 1 of TRANSFER and of five other operations). -/
def lineNeedConfigured (s : State) : State :=
  if s.status.configured then s.advance else raise .requestRejected ErrInfo.nothing s

/-- TRANSFER line 2: the descriptor. -/
def lineXferDescriptor (s : State) : State :=
  { s with
    env := (addrOperand s.latFields s.lat.addr s.env).2
    locals :=
      { s.locals with
        desc :=
          { opc := s.latFields.arg
            addr := (addrOperand s.latFields s.lat.addr s.env).1
            nw := s.latFields.nw.toNat
            nr := s.latFields.nr.toNat } } }.advance

/-- `wf(d)` (R111): none of the five cases. -/
def Descriptor.wf (p : Params) (d : Descriptor) : Bool :=
  (shapeOf d.opc).isSome && decide (d.nw ≤ p.maxPayload) && decide (d.nr ≤ p.maxPayload) && d.addr.isNone &&
    !(decide (0 < d.nw) && decide (0 < d.nr)) && decide (shapeOf d.opc = some (d.nw, d.nr))

/-- TRANSFER line 3: a malformed descriptor ends the operation and sends no frame (R111). -/
def lineXferCheck (s : State) : State :=
  if s.locals.desc.wf s.params then s.advance
  else raise .transportError ⟨some s.locals.desc.opc, none, some malformedStatus⟩ s

/-- TRANSFER line 4, the payload operand: `MemRead(0x40, NW)` over the latched TXBUF (R61, R87). -/
def lineXferLoad (s : State) : State :=
  { s with
    env := (memRead s.lat.txbuf 0x40 s.locals.desc.nw s.env).2
    locals := { s.locals with tx := (memRead s.lat.txbuf 0x40 s.locals.desc.nw s.env).1 } }.advance

/-- The frame of TRANSFER line 4. -/
def transferFrame (s : State) : WireFrame where
  opc := s.locals.desc.opc
  addr := s.locals.desc.addr.map fun a => lowBits a s.cfg.aw.toNat
  tx := s.locals.tx
  nr := s.locals.desc.nr

/-- TRANSFER (R110), flattened. -/
def transferLines : List Line := [.needConfigured, .xferDescriptor, .xferCheck, .xferLoad, .xferFrame]

end Sys2Proof.Machine
end

