-- ==== Sys2Proof/Machine/Configurator.lean ====
section
/-! DEFINITION. The bus format configurator (spec 41): the lines of CONFIGURE. -/

namespace Sys2Proof.Machine

open Sys2Proof.Config

/-- `TransportConfigure(aw, f, mode, lines)` (R142): 0 exactly when the width and the frequency are legal, else a non-zero
draw. The polarity mode and the pin identifiers (`Params`) are opaque inputs (R140) that the acceptance does not depend on. -/
def transportConfigure (p : Params) (aw freq : Word) (e : Env) : Word × Env :=
  if p.legalAw.admits aw && p.legalFreq.contains freq then (0#32, e) else (nonZero e.draw.1, e.draw.2)

/-- CONFIGURE line 1: configuring twice is refused (R145). -/
def lineNeedUnconfigured (s : State) : State :=
  if s.status.configured then raise .requestRejected ErrInfo.nothing s else s.advance

/-- CONFIGURE line 2: `aw <- zext_32(ARG); f <- lat.FREQ`. -/
def lineCfgOperands (s : State) : State :=
  { s with
    env := (readOperand s.lat.freq s.env).2
    locals := { s.locals with aw := s.awOperand, freq := (readOperand s.lat.freq s.env).1 } }.advance

/-- CONFIGURE line 3: the transport's answer. -/
def lineCfgTransport (s : State) : State :=
  { s with
    env := (transportConfigure s.params s.locals.aw s.locals.freq s.env).2
    locals := { s.locals with cst := (transportConfigure s.params s.locals.aw s.locals.freq s.env).1 } }.advance

/-- CONFIGURE line 4: `emit(Cfg(aw, f, cst = 0))`. -/
def lineCfgEmit (s : State) : State :=
  (s.emit (.cfg s.locals.aw s.locals.freq (decide (s.locals.cst = 0#32)))).advance

/-- CONFIGURE line 5: a rejected format ends the operation (R144). -/
def lineCfgCheck (s : State) : State :=
  if s.locals.cst ≠ 0#32 then raise .configurationFailure ⟨none, none, some s.locals.cst⟩ s else s.advance

/-- CONFIGURE line 6: the accepted width and frequency are recorded, the transport is in SINGLE mode (R143). -/
def lineCfgRecord (s : State) : State :=
  { s with
    cfg := ⟨s.locals.aw.setWidth 8, s.locals.freq⟩
    xferMode := .single
    status := { s.status with configured := true } }.advance

/-- CONFIGURE (R141), flattened. -/
def configureLines : List Line := [.needUnconfigured, .cfgOperands, .cfgTransport, .cfgEmit, .cfgCheck, .cfgRecord]

end Sys2Proof.Machine
end

