-- ==== Sys2Proof/Machine/LineMux.lean ====
section
/-! DEFINITION. The bus-line multiplexer (spec 45): the lines of RELEASE_LATCH. -/

namespace Sys2Proof.Machine

/-- RELEASE_LATCH line 2: a second release is refused (R205). -/
def lineNeedUnreleased (s : State) : State :=
  if s.status.latchReleased then raise .requestRejected ErrInfo.nothing s else s.advance

/-- RELEASE_LATCH line 3: the pin controller's call, with the opaque identifier of the latch line, and the `Pin` event (R207). -/
def linePinMode (s : State) : State :=
  ({ s with pinCalls := s.pinCalls ++ [(s.params.lineIds.data s.params.latchLine.line, LineRole.passiveIn)] }.emit
    (.pin s.params.latchLine.line .passiveIn)).advance

/-- RELEASE_LATCH line 4: the latch line's selector goes to PASSIVE_IN (R201). -/
def lineMarkReleased (s : State) : State :=
  { s with
    lineRole := s.lineRole.set .passiveIn s.params.latchLine.line
    status := { s.status with latchReleased := true } }.advance

/-- RELEASE_LATCH (R200), flattened. -/
def releaseLatchLines : List Line := [.needConfigured, .needUnreleased, .pinMode, .markReleased]

end Sys2Proof.Machine
end

