-- ==== Sys2Proof/Machine/Poller.lean ====
section
/-! DEFINITION. The readiness poller (spec 42): the lines of WAIT_READY. -/

namespace Sys2Proof.Machine

open Sys2Proof.Config

/-- WAIT_READY line 2: `RETRY <- N` (R151, R160). -/
def lineLoadRetry (s : State) : State := { s with retry := retryCeiling }.advance

/-- WAIT_READY line 5: BUSY clear returns, from the byte just received (R151, R159). -/
def linePollReady (s : State) : State := if busy s.locals.sr1 then s.advance else s.leaveLoop

/-- WAIT_READY line 6: `RETRY <- RETRY - 1` (log entry 21). -/
def linePollCount (s : State) : State := { s with retry := s.retry - 1#14 }.advance

/-- WAIT_READY line 7: an empty budget raises ReadinessTimeout with the last answer. -/
def linePollExhausted (s : State) : State :=
  if s.retry = 0#14 then raise .readinessTimeout ⟨none, some s.locals.sr1, none⟩ s else s.advance

/-- WAIT_READY lines 8 and 9: the wait, an event and no time (R155, log entry 15), and back to line 4. -/
def linePollWait (s : State) : State := (s.emit (.wait pollIntervalMs)).advance

/-- WAIT_READY (R151), flattened; the loop of lines 3 to 9 is one entry that names its current line. -/
def waitReadyLines : List Line := [.needConfigured, .loadRetry, .poll .read]

end Sys2Proof.Machine
end

