-- ==== Sys2Proof/Machine/WriteEnable.lean ====
section
/-! DEFINITION. The write-enable sequencer (spec 43): the lines of ENABLE_WRITE. -/

namespace Sys2Proof.Machine

/-- ENABLE_WRITE line 6: with `WEL_CHECK`, a clear WEL in the byte line 5 received raises WriteEnableNotLatched (R166, R169). -/
def lineVerifyLatch (s : State) : State :=
  if s.params.welCheck && !welSet s.params.srLayout s.locals.sr1 then
    raise .writeEnableNotLatched ⟨none, some s.locals.sr1, none⟩ s
  else s.advance

/-- ENABLE_WRITE (R165), flattened. -/
def enableWriteLines : List Line :=
  [.needConfigured] ++ waitReadyLines ++ [.sendWren] ++ waitReadyLines ++ [.verifyRead, .verifyLatch]

end Sys2Proof.Machine
end

