-- ==== Sys2Proof/Machine/ProtectionReset.lean ====
section
/-! DEFINITION. The protection-reset sequencer (spec 46): RESET_PROTECTION's lines. Its own line 4, the WRSR1 frame with the
constant payload 0x00, is `Line.sendWrsr1`. -/

namespace Sys2Proof.Machine

/-- RESET_PROTECTION (R215), flattened. -/
def resetProtectionLines : List Line :=
  [.needConfigured] ++ waitReadyLines ++ enableWriteLines ++ [.sendWrsr1] ++ waitReadyLines

end Sys2Proof.Machine
end

