-- ==== Sys2Proof/Machine/StatusDecoder.lean ====
section
/-! DEFINITION. The status-register reader (spec 44): the lines of READ_DECODE. The decode function is `decodeStatus` in Flags. -/

namespace Sys2Proof.Machine

/-- READ_DECODE line 5: the three bytes in one step, and SNAP_VALID (R187). -/
def lineSnapStore (s : State) : State :=
  { s with
    snap := ⟨s.locals.b1, s.locals.b2, s.locals.b3, true⟩
    status := { s.status with snapValid := true } }.advance

/-- READ_DECODE (R185), flattened. -/
def readDecodeLines : List Line := [.needConfigured, .snapRead1, .snapRead2, .snapRead3, .snapStore]

end Sys2Proof.Machine
end

