-- ==== Sys2Proof/Machine/Orchestrator.lean ====
section
/-! DEFINITION. The recovery orchestrator (spec 47): the lines of RUN_RECOVERY. -/

namespace Sys2Proof.Machine

/-- RUN_RECOVERY line 1: it starts from the fresh state only; otherwise RequestRejected, ORCH and STAGE as they were (R231). -/
def lineNeedFresh (s : State) : State :=
  if s.status.orch ≠ 0#3 ∨ s.status.configured then reject s else s.advance

/-- `set(o)` (R232). -/
def lineSetOrch (o : Orch) (s : State) : State := (s.setOrch o).advance

/-- RUN_RECOVERY line 12: with `VERIFY_CHECK`, a snapshot that still shows protection raises ProtectionStillSet (R238). -/
def lineVerifyCleared (s : State) : State :=
  if s.params.verifyCheck && stillProtected s.params.srLayout s.snap.sr1 then
    raise .protectionStillSet ⟨none, some s.snap.sr1, none⟩ s
  else s.advance

/-- RUN_RECOVERY (R232), flattened. -/
def runRecoveryLines : List Line :=
  [.needFresh] ++ configureLines ++ [.setOrch .busConfigured] ++ waitReadyLines ++ releaseLatchLines ++
    [.setOrch .latchReleased] ++ enableWriteLines ++ [.setOrch .writeEnabledOnce] ++ resetProtectionLines ++
    [.setOrch .protectionCleared] ++ readDecodeLines ++ [.verifyCleared, .setOrch .verified]

end Sys2Proof.Machine
end

