-- ==== Sys2Proof/Machine/Sequencer.lean ====
section
/-! DEFINITION. The sequencer: what each line of the flattened list does, one round (the outside world's acts, then one line), and
the run of a request from its acceptance to its end (spec 10 R36, spec 30 R88, spec 70 R308). -/

namespace Sys2Proof.Machine

/-- The frame that the next line sends, if it sends one. -/
def nextFrame (s : State) : Option WireFrame :=
  match s.ptr with
  | .poll .read :: _ => some rdsr1Frame
  | .verifyRead :: _ => some rdsr1Frame
  | .snapRead1 :: _ => some rdsr1Frame
  | .snapRead2 :: _ => some rdsr2Frame
  | .snapRead3 :: _ => some rdsr3Frame
  | .sendWren :: _ => some wrenFrame
  | .sendWrsr1 :: _ => some (wrsr1Frame 0x00#8)
  | .xferFrame :: _ => some (transferFrame s)
  | _ => none

/-- What one line does to the state; the lines that send a frame call `xfer`. -/
def lineEffect (l : Line) (s : State) : State :=
  match l with
  | .needConfigured => lineNeedConfigured s
  | .needUnconfigured => lineNeedUnconfigured s
  | .needUnreleased => lineNeedUnreleased s
  | .needFresh => lineNeedFresh s
  | .cfgOperands => lineCfgOperands s
  | .cfgTransport => lineCfgTransport s
  | .cfgEmit => lineCfgEmit s
  | .cfgCheck => lineCfgCheck s
  | .cfgRecord => lineCfgRecord s
  | .xferDescriptor => lineXferDescriptor s
  | .xferCheck => lineXferCheck s
  | .xferLoad => lineXferLoad s
  | .xferFrame => xfer (transferFrame s) s
  | .loadRetry => lineLoadRetry s
  | .poll .read => xfer rdsr1Frame s
  | .poll .ready => linePollReady s
  | .poll .count => linePollCount s
  | .poll .exhausted => linePollExhausted s
  | .poll .wait => linePollWait s
  | .sendWren => xfer wrenFrame s
  | .verifyRead => xfer rdsr1Frame s
  | .verifyLatch => lineVerifyLatch s
  | .snapRead1 => xfer rdsr1Frame s
  | .snapRead2 => xfer rdsr2Frame s
  | .snapRead3 => xfer rdsr3Frame s
  | .snapStore => lineSnapStore s
  | .pinMode => linePinMode s
  | .markReleased => lineMarkReleased s
  | .sendWrsr1 => xfer (wrsr1Frame 0x00#8) s
  | .setOrch o => lineSetOrch o s
  | .verifyCleared => lineVerifyCleared s
  | .endOk => finish s

/-- The sequencer performs the line its pointer names; at IDLE there is none. -/
def runLine (s : State) : State :=
  match s.ptr with
  | [] => s
  | l :: _ => lineEffect l s

/-- One round of a running operation: the outside world acts, then the next line runs, if the operation still runs. -/
def round (s : State) : State :=
  if (deliver s.port s).status.active then runLine (deliver s.port s) else deliver s.port s

/-- At most n rounds, stopping when the operation has ended. -/
def run : Nat → State → State
  | 0, s => s
  | n + 1, s => if s.status.active then run n (round s) else s

/-- More rounds than any operation has (R36, R244): RUN_RECOVERY's seven waits have fewer than 7·(5·2^14 + 8) lines
(log entry 18). -/
def roundLimit : Nat := 1000000

/-- A request word of an operation with the given lines (R88): dropped while ACTIVE = 1; otherwise accepted and run to its
end, which no host request can bring forward (R308). -/
def request (w : Word) (lines : List Line) (s : State) : State :=
  if s.status.active then dropRequest w s else run roundLimit (accept w (lines ++ [.endOk]) s)

end Sys2Proof.Machine
end

