-- ==== Sys2Proof/Machine/Requests.lean ====
section
/-! DEFINITION. The meanings of the eight request operations (spec 30 R86) and of the five pseudo rows (R98): each is its word,
accepted at REQ and run to its end. -/

namespace Sys2Proof.Machine

/-- CONFIGURE (R141). -/
def execConfigure (f : Fields) (s : State) : Host.Outcome State Fault Refusal :=
  .next (request (requestWord 0x1#4 f) configureLines s)

/-- TRANSFER (R110). -/
def execTransfer (f : Fields) (s : State) : Host.Outcome State Fault Refusal :=
  .next (request (requestWord 0x2#4 f) transferLines s)

/-- WAIT_READY (R151). -/
def execWaitReady (f : Fields) (s : State) : Host.Outcome State Fault Refusal :=
  .next (request (requestWord 0x3#4 f) waitReadyLines s)

/-- ENABLE_WRITE (R165). -/
def execEnableWrite (f : Fields) (s : State) : Host.Outcome State Fault Refusal :=
  .next (request (requestWord 0x4#4 f) enableWriteLines s)

/-- READ_DECODE (R185). -/
def execReadDecode (f : Fields) (s : State) : Host.Outcome State Fault Refusal :=
  .next (request (requestWord 0x5#4 f) readDecodeLines s)

/-- RELEASE_LATCH (R200). -/
def execReleaseLatch (f : Fields) (s : State) : Host.Outcome State Fault Refusal :=
  .next (request (requestWord 0x6#4 f) releaseLatchLines s)

/-- RESET_PROTECTION (R215). -/
def execResetProtection (f : Fields) (s : State) : Host.Outcome State Fault Refusal :=
  .next (request (requestWord 0x7#4 f) resetProtectionLines s)

/-- RUN_RECOVERY (R232). -/
def execRunRecovery (f : Fields) (s : State) : Host.Outcome State Fault Refusal :=
  .next (request (requestWord 0x8#4 f) runRecoveryLines s)

/-- `TRANSFER opc=0x05, nr=1` (R98). -/
def execTransferRdsr1 (s : State) : Host.Outcome State Fault Refusal := .next (request 0x00200052#32 transferLines s)

/-- `TRANSFER opc=0x35, nr=1` (R98). -/
def execTransferRdsr2 (s : State) : Host.Outcome State Fault Refusal := .next (request 0x00200352#32 transferLines s)

/-- `TRANSFER opc=0x15, nr=1` (R98). -/
def execTransferRdsr3 (s : State) : Host.Outcome State Fault Refusal := .next (request 0x00200152#32 transferLines s)

/-- `TRANSFER opc=0x06` (R98). -/
def execTransferWren (s : State) : Host.Outcome State Fault Refusal := .next (request 0x00000062#32 transferLines s)

/-- `TRANSFER opc=0x01, tx=[v]` with v in TXBUF[0] (R98). -/
def execTransferWrsr1 (s : State) : Host.Outcome State Fault Refusal := .next (request 0x00002012#32 transferLines s)

end Sys2Proof.Machine
end

