-- ==== Sys2Proof/Machine/WireCommands.lean ====
section
/-! DEFINITION. The meanings of the five wire commands (spec 40 R118–R122): each is the frame its rule gives, sent by the line the
sequencer stands at. -/

namespace Sys2Proof.Machine

/-- RDSR1 (R118): `xfer(0x05, none, [], 1)`. -/
def execRdsr1 (s : State) : Host.Outcome State Fault Refusal := .next (xfer rdsr1Frame s)

/-- RDSR2 (R119): `xfer(0x35, none, [], 1)`. -/
def execRdsr2 (s : State) : Host.Outcome State Fault Refusal := .next (xfer rdsr2Frame s)

/-- RDSR3 (R120): `xfer(0x15, none, [], 1)`. -/
def execRdsr3 (s : State) : Host.Outcome State Fault Refusal := .next (xfer rdsr3Frame s)

/-- WREN (R121): `xfer(0x06, none, [], 0)`. -/
def execWren (s : State) : Host.Outcome State Fault Refusal := .next (xfer wrenFrame s)

/-- WRSR1 v (R122): `xfer(0x01, none, [v], 0)`. -/
def execWrsr1 (v : Byte) (s : State) : Host.Outcome State Fault Refusal := .next (xfer (wrsr1Frame v) s)

end Sys2Proof.Machine
end

