-- ==== Sys2Proof/Machine/Dispatch.lean ====
section
/-! DEFINITION. The meaning of every instruction: one arm for each row of spec/opcode_table.json. -/

namespace Sys2Proof.Machine

def exec (i : Instr) (s : State) : Host.Outcome State Fault Refusal :=
  match i with
  | .configure f => Sys2Proof.Machine.execConfigure f s
  | .transfer f => Sys2Proof.Machine.execTransfer f s
  | .waitReady f => Sys2Proof.Machine.execWaitReady f s
  | .enableWrite f => Sys2Proof.Machine.execEnableWrite f s
  | .readDecode f => Sys2Proof.Machine.execReadDecode f s
  | .releaseLatch f => Sys2Proof.Machine.execReleaseLatch f s
  | .resetProtection f => Sys2Proof.Machine.execResetProtection f s
  | .runRecovery f => Sys2Proof.Machine.execRunRecovery f s
  | .rdsr1 => Sys2Proof.Machine.execRdsr1 s
  | .rdsr2 => Sys2Proof.Machine.execRdsr2 s
  | .rdsr3 => Sys2Proof.Machine.execRdsr3 s
  | .wren => Sys2Proof.Machine.execWren s
  | .wrsr1 v => Sys2Proof.Machine.execWrsr1 v s
  | .transferRdsr1 => Sys2Proof.Machine.execTransferRdsr1 s
  | .transferRdsr2 => Sys2Proof.Machine.execTransferRdsr2 s
  | .transferRdsr3 => Sys2Proof.Machine.execTransferRdsr3 s
  | .transferWren => Sys2Proof.Machine.execTransferWren s
  | .transferWrsr1 => Sys2Proof.Machine.execTransferWrsr1 s

end Sys2Proof.Machine
end

