-- ==== Sys2Proof/Machine/Fetch.lean ====
section
/-! DEFINITION. What the machine takes up next. The block fetches no instructions from a memory (spec 20 R75): a request comes from
the host's port, as a REQ write, and a wire command comes from the line the sequencer stands at. -/

namespace Sys2Proof.Machine

/-- What a step takes up: an instruction and the state to run it in, or something that is no instruction, with its outcome. -/
inductive Fetched where
  | instr (i : Instr) (s : State)
  | other (o : Host.Outcome State Fault Refusal)

/-- The wire command a frame's bits on D0 are, where the frame is admitted (R90, R91). -/
def frameInstr (f : WireFrame) (addrW : Nat) : Option Instr :=
  if f.admitted then
    match decodeFrame (f.outBits addrW) with
    | .ok (i, []) => some i
    | .ok (_, _ :: _) => none
    | .error _ => none
  else none

/-- The wire command that the running operation's next line sends, if it sends one. -/
def nextCommand (s : State) : Option Instr := (nextFrame s).bind fun f => frameInstr f s.cfg.aw.toNat

/-- While an operation runs: the outside world acts, then the sequencer's next line runs; a line that sends a frame is the
wire command the frame's bits are. -/
def fetchLine (s : State) : Fetched :=
  if s.status.active then
    match nextCommand s with
    | some i => .instr i s
    | none => .other (.next (runLine s))
  else .other (.next s)

/-- While the block is idle: the outside world's next act. A REQ write is a request: an instruction, or a reserved word
(R93). -/
def fetchAct : Act → State → Fetched
  | .write i wd v, s =>
    if hostIndex s.params i = .req ∧ wd = .word then
      match decodeRequest v with
      | .ok op => .instr op s
      | .error _ => .other (.next (reserved v s))
    else .other (hostWrite i wd v s)
  | .read i wd, s => .other (hostRead i wd s)
  | .pause, s => .other (.next s)
  | .await, s => .other (finishStatement s)
  | .reset, s => .other (.next (blockReset s))
  | .chipReset, s => .other (.next (chipReset s))

/-- What the machine takes up next; with nothing to do outside, an idle block stays as it is (R291). -/
def fetch (s : State) : Fetched :=
  if s.status.active then fetchLine (deliver s.port s)
  else match s.port with
    | [] => .other (.next s)
    | a :: rest => fetchAct a { s with port := rest }

/-- The state in which the next step takes up the instruction whose bits are w. A request word is a REQ write at the head of
the host's port of an idle block. A wire command is the frame of a raw TRANSFER that stands at its line 4, on a configured
transport, with no host access before it (log entry 8). -/
def placeWord (nbits w : Nat) (s : State) : State :=
  if nbits = 32 then
    { s with
      status := { s.status with active := false }
      ptr := []
      port := .write 0x00 .word (BitVec.ofNat 32 w) :: s.port }
  else
    let b := w % 2 ^ nbits
    let opc : Byte := BitVec.ofNat 8 b
    let shape := (shapeOf opc).getD (0, 0)
    { s with
      status := { s.status with active := true, configured := true }
      xferMode := .single
      lat := { s.lat with word := requestWord 0x2#4 ⟨opc, 0#1, BitVec.ofNat 8 shape.1, BitVec.ofNat 8 shape.2⟩ }
      ptr := [.xferFrame, .endOk]
      locals :=
        { Locals.clear with
          desc := ⟨opc, none, shape.1, shape.2⟩
          tx := List.replicate shape.1 (BitVec.ofNat 8 (b / 256)) }
      port := .pause :: s.port }

end Sys2Proof.Machine
end

