-- ==== Sys2Proof/Machine/Step.lean ====
section
/-! DEFINITION. The step: take up what comes next, and run it if it is an instruction. -/

namespace Sys2Proof.Machine

/-- One step of the machine. -/
def step (s : State) : Host.Outcome State Fault Refusal :=
  match fetch s with
  | .instr i s' => exec i s'
  | .other o => o

/-- The state with an instruction placed where `step` takes up its next one (log entry 8). -/
def State.withFetchWord (s : State) (nbits w : Nat) : State := placeWord nbits w s

end Sys2Proof.Machine
end

