-- ==== Sys2Proof/Machine/Program.lean ====
section
/-! DEFINITION. Host programs (spec 30 R97–R99): the statements, their assembly to host accesses, and the boot order a host follows
after reset (spec 70 R294). -/

namespace Sys2Proof.Machine

open Sys2Proof.Config

/-- A statement of a host program (R97, R98; log entry 22). -/
inductive Statement where
  | configure (aw : Byte) (freq : Word)
  | transfer (opc : Byte) (addr : Option Word) (tx : List Byte) (nr : Byte)
  | waitReady
  | enableWrite
  | readDecode
  | releaseLatch
  | resetProtection
  | runRecovery (aw : Byte) (freq : Word)
  /-- `RDSR1`: TRANSFER opc=0x05, nr=1. -/
  | rdsr1
  /-- `RDSR2`: TRANSFER opc=0x35, nr=1. -/
  | rdsr2
  /-- `RDSR3`: TRANSFER opc=0x15, nr=1. -/
  | rdsr3
  /-- `WREN`: TRANSFER opc=0x06. -/
  | wren
  /-- `WRSR1 v`: TRANSFER opc=0x01, tx=[v]. -/
  | wrsr1 (v : Byte)
deriving DecidableEq, Repr

/-- A pseudo-instruction as the TRANSFER it stands for; any other statement as it is (R98). -/
def Statement.expand : Statement → Statement
  | .rdsr1 => .transfer 0x05#8 none [] 1#8
  | .rdsr2 => .transfer 0x35#8 none [] 1#8
  | .rdsr3 => .transfer 0x15#8 none [] 1#8
  | .wren => .transfer 0x06#8 none [] 0#8
  | .wrsr1 v => .transfer 0x01#8 none [v] 0#8
  | .configure aw f => .configure aw f
  | .transfer opc a tx nr => .transfer opc a tx nr
  | .waitReady => .waitReady
  | .enableWrite => .enableWrite
  | .readDecode => .readDecode
  | .releaseLatch => .releaseLatch
  | .resetProtection => .resetProtection
  | .runRecovery aw f => .runRecovery aw f

/-- The request word of a statement that is no pseudo-instruction (R85, R97): AP = 1 iff an address is given, NW the length of
tx, NR = nr. -/
def Statement.plainWord : Statement → Word
  | .configure aw _ => requestWord 0x1#4 ⟨aw, 0#1, 0#8, 0#8⟩
  | .transfer opc a tx nr => requestWord 0x2#4 ⟨opc, if a.isSome then 1#1 else 0#1, BitVec.ofNat 8 tx.length, nr⟩
  | .waitReady => requestWord 0x3#4 ⟨0#8, 0#1, 0#8, 0#8⟩
  | .enableWrite => requestWord 0x4#4 ⟨0#8, 0#1, 0#8, 0#8⟩
  | .readDecode => requestWord 0x5#4 ⟨0#8, 0#1, 0#8, 0#8⟩
  | .releaseLatch => requestWord 0x6#4 ⟨0#8, 0#1, 0#8, 0#8⟩
  | .resetProtection => requestWord 0x7#4 ⟨0#8, 0#1, 0#8, 0#8⟩
  | .runRecovery aw _ => requestWord 0x8#4 ⟨aw, 0#1, 0#8, 0#8⟩
  | .rdsr1 | .rdsr2 | .rdsr3 | .wren | .wrsr1 _ => 0#32

/-- The request word of a statement (R97–R99). -/
def Statement.word (st : Statement) : Word := st.expand.plainWord

/-- The writes of a payload to TXBUF from index i on. -/
def payloadWrites : Nat → List Byte → List Act
  | _, [] => []
  | i, v :: vs => .write i .byte (v.setWidth 32) :: payloadWrites (i + 1) vs

/-- The operand writes of a statement: ADDR, FREQ, TXBUF, in that order (R97). -/
def Statement.operandWrites (st : Statement) : List Act :=
  match st.expand with
  | .configure _ f => [.write 0x08 .word f]
  | .runRecovery _ f => [.write 0x08 .word f]
  | .transfer _ a tx _ => (match a with | some v => [.write 0x04 .word v] | none => []) ++ payloadWrites 0x40 tx
  | .waitReady | .enableWrite | .readDecode | .releaseLatch | .resetProtection | .rdsr1 | .rdsr2 | .rdsr3 | .wren
  | .wrsr1 _ => []

/-- A statement as host accesses: the operand writes, the REQ write, and the wait for its end, at which the program stops if
RESULT.CODE ≠ 0 (R97). -/
def Statement.assemble (st : Statement) : List Act :=
  st.operandWrites ++ [.write 0x00 .word st.word, .await]

/-- A host program as host accesses. -/
def assemble (p : List Statement) : List Act := p.flatMap Statement.assemble

/-- The host's duties after reset, in their order (R294), with the board's constants. -/
def bootProgram (p : Params) : List Statement :=
  [.configure p.boardAw p.boardFreq, .waitReady, .releaseLatch, .enableWrite, .resetProtection, .readDecode]

/-- The recovery as one statement, with the board's constants (R230, R294). -/
def recoveryProgram (p : Params) : List Statement := [.runRecovery p.boardAw p.boardFreq]

end Sys2Proof.Machine
end

