-- ==== Sys2Proof/Safety.lean ====
section
/-! DEFINITION. The terms in which claims are stated: when the outside world leaves the block alone, the invariants of R48 and of
the model's data, and what a trace holds. -/

namespace Sys2Proof.Machine

open Sys2Proof.Config

/-! ### The outside world -/

/-- The outside world does nothing to the block while the operation runs: it has nothing to do, or it waits for the end of a
statement (R97). -/
def State.quiet (s : State) : Bool :=
  match s.port with
  | [] => true
  | .await :: _ => true
  | _ => false

/-- An act that is a host access (or none): no reset and no event of the flash. -/
def Act.access : Act → Bool
  | .write _ _ _ => true
  | .read _ _ => true
  | .pause => true
  | .await => true
  | .reset => false
  | .chipReset => false

/-- The block can take a request and nothing outside acts while the operation runs. -/
def State.ready (s : State) : Prop := s.status.active = false ∧ s.quiet = true

/-! ### Results and latched requests -/

/-- What acceptance latches (R88): the word and the operand registers. -/
def State.latch (s : State) (w : Word) : Lat := ⟨w, s.addr, s.freq, s.txbuf⟩

/-- RESULT of a success (R25: CODE 0, both VALID bits 0). -/
def Result.success (op : BitVec 4) : Result := ⟨0x0#4, op, 0#8, 0#8, false, false⟩

/-- RESULT of RequestRejected, which records nothing (R261). -/
def Result.rejected (op : BitVec 4) : Result := ⟨0x5#4, op, 0#8, 0#8, false, false⟩

/-- RESULT of a TransportError, which records the frame's opcode (R261). -/
def Result.transport (op : BitVec 4) (opc : Byte) : Result := ⟨0x1#4, op, opc, 0#8, true, false⟩

/-- RESULT of ConfigurationFailure, which records neither (R261). -/
def Result.misconfigured (op : BitVec 4) : Result := ⟨0x3#4, op, 0#8, 0#8, false, false⟩

/-- RESULT of an error that records an SR1 byte: codes 2, 4 and 6 (R261). -/
def Result.answered (op : BitVec 4) (code : BitVec 4) (sr1 : Byte) : Result := ⟨code, op, 0#8, sr1, false, true⟩

/-- The wire commands that stale a snapshot: WREN and WRSR1 (R116). -/
def stales (opc : Byte) : Bool := opc == 0x06#8 || opc == 0x01#8

/-! ### Invariants -/

/-- The lines of a flattened list that need a configured bus come after a line that has seen to it (`cfg` says whether it is
seen to already): line 1 of an operation, or CONFIGURE's line 6. -/
def linesConfigured : Bool → List Line → Bool
  | _, [] => true
  | _, .needConfigured :: rest => linesConfigured true rest
  | _, .cfgRecord :: rest => linesConfigured true rest
  | cfg, .markReleased :: rest => cfg && linesConfigured cfg rest
  | cfg, .setOrch _ :: rest => cfg && linesConfigured cfg rest
  | cfg, _ :: rest => linesConfigured cfg rest

/-- R48 item 1. -/
def State.releasedOnlyConfigured (s : State) : Prop := s.status.latchReleased = true → s.status.configured = true

/-- R48 item 2. -/
def State.configuredIsSingle (s : State) : Prop := s.status.configured = true ↔ s.xferMode = .single

/-- R48 item 3. -/
def State.onlyLatchLinePassive (s : State) : Prop :=
  ∀ d : DataLine, s.lineRole.get d = .passiveIn → d = s.params.latchLine.line ∧ s.status.latchReleased = true

/-- R48 item 4. -/
def State.orchNeedsConfigured (s : State) : Prop :=
  s.status.orch ≠ 0#3 → s.status.orch ≠ 7#3 → s.status.configured = true

/-- R48 item 5. -/
def State.idleWhenInactive (s : State) : Prop := s.status.active = false → s.ptr = []

/-- ORCH never holds 6 and STAGE never exceeds 4 (R24, R38). -/
def State.orchLegal (s : State) : Prop := s.status.orch ≠ 6#3 ∧ s.status.stage ≤ 4#3

/-- While the orchestrator is Unconfigured, STAGE is 0: `set` writes both (R38, R232). -/
def State.freshStage (s : State) : Prop := s.status.orch = 0#3 → s.status.stage = 0#3

/-- RESULT.CODE never holds a reserved value (R261). -/
def State.codeLegal (s : State) : Prop := reservedCode s.result.code = false

/-- The payload memories are in canonical form. -/
def State.memoriesWf (s : State) : Prop := s.txbuf.wf = true ∧ s.rxbuf.wf = true ∧ s.lat.txbuf.wf = true

/-- The lines still to run see to their own configured bus. -/
def State.pointerConfigured (s : State) : Prop := linesConfigured s.status.configured s.ptr = true

/-- The invariant of the machine: R48's items 1 to 5, the legal values of ORCH, STAGE and CODE, STAGE 0 in the fresh
state, the canonical form of the memories, and the pointer's own condition. -/
structure State.Inv (s : State) : Prop where
  releasedOnlyConfigured : s.releasedOnlyConfigured
  configuredIsSingle : s.configuredIsSingle
  onlyLatchLinePassive : s.onlyLatchLinePassive
  orchNeedsConfigured : s.orchNeedsConfigured
  idleWhenInactive : s.idleWhenInactive
  orchLegal : s.orchLegal
  freshStage : s.freshStage
  codeLegal : s.codeLegal
  memoriesWf : s.memoriesWf
  pointerConfigured : s.pointerConfigured

/-! ### Traces -/

/-- The events an execution from s to t appended. -/
def newEvents (s t : State) : List Event := t.trace.drop s.trace.length

/-- The event is a frame with the given opcode. -/
def Event.isFrameOf (opc : Byte) : Event → Bool
  | .frame o _ _ _ _ _ => o == opc
  | .cfg _ _ _ | .pin _ _ | .wait _ | .done _ _ | .drop _ => false

/-- The event is a frame. -/
def Event.isFrame : Event → Bool
  | .frame _ _ _ _ _ _ => true
  | .cfg _ _ _ | .pin _ _ | .wait _ | .done _ _ | .drop _ => false

/-- The event is a status-register-1 read that succeeded and read BUSY clear. -/
def Event.readyRead : Event → Bool
  | .frame o _ _ _ st rx => o == 0x05#8 && st == 0#32 && (rx.head?.map fun b => !busy b).getD false
  | .cfg _ _ _ | .pin _ _ | .wait _ | .done _ _ | .drop _ => false

/-- The event is a dropped request. -/
def Event.isDrop : Event → Bool
  | .drop _ => true
  | .cfg _ _ _ | .frame _ _ _ _ _ _ | .pin _ _ | .wait _ | .done _ _ => false

/-- A successful one-byte status read in the trace. -/
def readEvent (opc : Byte) (b : Byte) : Event := .frame opc none [] 1 0#32 [b]

/-- A successful WREN in the trace. -/
def wrenEvent : Event := .frame 0x06#8 none [] 0 0#32 []

/-- A successful WRSR1 0x00 in the trace. -/
def wrsr1Event : Event := .frame 0x01#8 none [0x00#8] 0 0#32 []

/-- Busy polls: each a status-register-1 read and a wait (R151). -/
def busyPolls (bs : List Byte) : List Event := bs.flatMap fun b => [readEvent 0x05#8 b, .wait pollIntervalMs]

/-- RXBUF after the last of some one-byte answers, if there was one. -/
def lastAnswer (m : Memory) (bs : List Byte) : Memory :=
  match bs.getLast? with
  | some b => m.write 0x80 b
  | none => m

/-! ### What the environment answers

Claims about an operation hold for every environment (R130), so they are stated over its answers: which replies it gives,
one after another, and how it stands after them. -/

/-- The environment answers a frame, sent once for each byte, with success and that byte, and then stands at e'. -/
def Env.reads (p : Params) (l : LineRole) (f : WireFrame) : List Byte → Env → Env → Prop
  | [], e, e' => e' = e
  | b :: bs, e, e' => (busFrame p l f e).1 = ⟨0#32, [b]⟩ ∧ Env.reads p l f bs (busFrame p l f e).2 e'

/-- The environment answers a frame that reads nothing with success, and then stands at e'. -/
def Env.acks (p : Params) (l : LineRole) (f : WireFrame) (e e' : Env) : Prop := busFrame p l f e = (⟨0#32, []⟩, e')

/-- The environment fails a frame with a status that is not 0, and then stands at e'. -/
def Env.fails (p : Params) (l : LineRole) (f : WireFrame) (st : Word) (e e' : Env) : Prop :=
  st ≠ 0#32 ∧ (busFrame p l f e).1.st = st ∧ (busFrame p l f e).2 = e'

/-- The answers of one readiness wait that succeeds: the busy ones, and the one that reads BUSY clear. -/
structure ReadyWait where
  busyOnes : List Byte
  ready    : Byte
deriving DecidableEq, Repr

/-- The environment gives a wait its answers, within the retry budget (R151, R152). -/
def ReadyWait.holds (w : ReadyWait) (p : Params) (l : LineRole) (e e' : Env) : Prop :=
  (∀ b ∈ w.busyOnes, busy b = true) ∧ busy w.ready = false ∧ w.busyOnes.length < 10000 ∧
    Env.reads p l rdsr1Frame (w.busyOnes ++ [w.ready]) e e'

/-- The events of a wait (R152): k reads and k - 1 waits. -/
def ReadyWait.events (w : ReadyWait) : List Event := busyPolls w.busyOnes ++ [readEvent 0x05#8 w.ready]

/-- RETRY after a wait: N - (k - 1) (R152). -/
def ReadyWait.retryLeft (w : ReadyWait) : BitVec 14 := 10000#14 - BitVec.ofNat 14 w.busyOnes.length

/-- The answers of one ENABLE_WRITE (R165): its two waits and the verification read. -/
structure Handshake where
  first  : ReadyWait
  second : ReadyWait
  latch  : Byte
deriving DecidableEq, Repr

/-- The environment gives the handshake its answers. -/
def Handshake.holds (h : Handshake) (p : Params) (l : LineRole) (e e' : Env) : Prop :=
  ∃ e₁ e₂ e₃, h.first.holds p l e e₁ ∧ Env.acks p l wrenFrame e₁ e₂ ∧ h.second.holds p l e₂ e₃ ∧
    Env.reads p l rdsr1Frame [h.latch] e₃ e'

/-- The events of the handshake (R171). -/
def Handshake.events (h : Handshake) : List Event :=
  h.first.events ++ [wrenEvent] ++ h.second.events ++ [readEvent 0x05#8 h.latch]

/-- The verification passes (R166, R169). -/
def Handshake.latched (h : Handshake) (p : Params) : Prop := p.welCheck = true → welSet p.srLayout h.latch = true

/-- The answers of one RESET_PROTECTION (R215): its wait, its ENABLE_WRITE and its last wait. -/
structure Clearing where
  first  : ReadyWait
  enable : Handshake
  last   : ReadyWait
deriving DecidableEq, Repr

/-- The environment gives the protection reset its answers. -/
def Clearing.holds (c : Clearing) (p : Params) (l : LineRole) (e e' : Env) : Prop :=
  ∃ e₁ e₂ e₃, c.first.holds p l e e₁ ∧ c.enable.holds p l e₁ e₂ ∧ Env.acks p l (wrsr1Frame 0x00#8) e₂ e₃ ∧
    c.last.holds p l e₃ e'

/-- The events of the protection reset (R221). -/
def Clearing.events (c : Clearing) : List Event :=
  c.first.events ++ c.enable.events ++ [wrsr1Event] ++ c.last.events

/-- The three answers of one READ_DECODE (R185). -/
structure Triple where
  b1 : Byte
  b2 : Byte
  b3 : Byte
deriving DecidableEq, Repr

/-- The environment gives the snapshot reads their answers. -/
def Triple.holds (b : Triple) (p : Params) (l : LineRole) (e e' : Env) : Prop :=
  ∃ e₁ e₂, Env.reads p l rdsr1Frame [b.b1] e e₁ ∧ Env.reads p l rdsr2Frame [b.b2] e₁ e₂ ∧
    Env.reads p l rdsr3Frame [b.b3] e₂ e'

/-- The events of the snapshot reads (R186). -/
def Triple.events (b : Triple) : List Event :=
  [readEvent 0x05#8 b.b1, readEvent 0x35#8 b.b2, readEvent 0x15#8 b.b3]

/-- All the answers of one RUN_RECOVERY that reaches its last line (R232, R239). -/
structure Recovery where
  wait     : ReadyWait
  enable   : Handshake
  clearing : Clearing
  snapshot : Triple
deriving DecidableEq, Repr

/-- The environment gives the recovery its answers: the first wait while the latch line has role l, the rest after the remap. -/
def Recovery.holds (r : Recovery) (p : Params) (l : LineRole) (e e' : Env) : Prop :=
  ∃ e₁ e₂ e₃, r.wait.holds p l e e₁ ∧ r.enable.holds p .passiveIn e₁ e₂ ∧ r.clearing.holds p .passiveIn e₂ e₃ ∧
    r.snapshot.holds p .passiveIn e₃ e'

/-- The events of the recovery after its `Cfg` and before its `Done` (R239). -/
def Recovery.events (r : Recovery) (p : Params) : List Event :=
  r.wait.events ++ [.pin p.latchLine.line .passiveIn] ++ r.enable.events ++ r.clearing.events ++ r.snapshot.events

/-! ### The parts of a write sequence

ENABLE_WRITE and RESET_PROTECTION are sequences of four kinds of part. Claims about a sequence that stops midway are stated over
the parts that were done before it and the kind of the one it stops at. -/

/-- The kinds of part: a readiness wait, WREN, ENABLE_WRITE's verification read, and WRSR1 0x00 (R165, R215). -/
inductive PartKind where
  | wait
  | wren
  | latch
  | clear
deriving DecidableEq, Repr

/-- ENABLE_WRITE's parts (R165 lines 2 to 6). -/
def enableWriteParts : List PartKind := [.wait, .wren, .wait, .latch]

/-- RESET_PROTECTION's parts (R215 lines 2 to 5). -/
def resetProtectionParts : List PartKind := [.wait] ++ enableWriteParts ++ [.clear, .wait]

/-- A part that was done, with the environment's answers to it: a wait that succeeded, a WREN, a verification read that answered
b, or a WRSR1 0x00. -/
inductive Part where
  | wait (w : ReadyWait)
  | wren
  | latch (b : Byte)
  | clear
deriving DecidableEq, Repr

/-- The kind of a part. -/
def Part.kind : Part → PartKind
  | .wait _ => .wait
  | .wren => .wren
  | .latch _ => .latch
  | .clear => .clear

/-- The environment gives the part its answers, and they let the sequence go on. -/
def Part.holds (p : Params) (l : LineRole) : Part → Env → Env → Prop
  | .wait w, e, e' => w.holds p l e e'
  | .wren, e, e' => Env.acks p l wrenFrame e e'
  | .latch b, e, e' =>
    Env.reads p l rdsr1Frame [b] e e' ∧ (p.welCheck = true → welSet p.srLayout b = true)
  | .clear, e, e' => Env.acks p l (wrsr1Frame 0x00#8) e e'

/-- The events of a part. -/
def Part.events : Part → List Event
  | .wait w => w.events
  | .wren => [wrenEvent]
  | .latch b => [readEvent 0x05#8 b]
  | .clear => [wrsr1Event]

/-- The part stales the snapshot (R116). -/
def Part.stales : Part → Bool
  | .wren => true
  | .clear => true
  | .wait _ => false
  | .latch _ => false

/-- RETRY after a part: only a wait writes it. -/
def Part.retryLeft (r : BitVec 14) : Part → BitVec 14
  | .wait w => w.retryLeft
  | .wren => r
  | .latch _ => r
  | .clear => r

/-- The environment gives some parts their answers, one after another. -/
def partsHold (p : Params) (l : LineRole) : List Part → Env → Env → Prop
  | [], e, e' => e' = e
  | x :: xs, e, e' => ∃ e₁, x.holds p l e e₁ ∧ partsHold p l xs e₁ e'

/-- The events of some parts. -/
def partsEvents (ps : List Part) : List Event := ps.flatMap Part.events

/-- RETRY after some parts. -/
def partsRetry (r : BitVec 14) (ps : List Part) : BitVec 14 := ps.foldl Part.retryLeft r

/-- STAGE of a RUN_RECOVERY that stops in its write sequences after n parts: 2 in line 7's ENABLE_WRITE, 3 in line 9's
RESET_PROTECTION (R235). -/
def stageAfterParts (n : Nat) : BitVec 3 := if n < 4 then 2#3 else 3#3

/-! ### States after an operation -/

/-- What every ended operation leaves: the request latched, the sequencer idle, OVR cleared at acceptance, RESULT written and
the operation's events and its `Done` in the trace (R88, R89). The fields that an operation changes besides are updates of
this state. -/
def State.ended (s : State) (w : Word) (r : Result) (evs : List Event) : State :=
  { s with
    lat := s.latch w
    ptr := []
    locals := Locals.clear
    status := { s.status with active := false, ovr := false }
    result := r
    trace := s.trace ++ evs ++ [.done r.op r.code] }

/-- The state after a request that its precondition refuses (R261 code 5). -/
def State.rejected (s : State) (w : Word) : State := s.ended w (Result.rejected (opField w)) []

/-! ### What a request may change -/

/-- The block as the host cannot touch it: without the live operand registers, OVR, the `Drop` events, and the model's own
record of what the host does. -/
def State.unhosted (s : State) : State :=
  { s with
    addr := HostReg.unwritten
    freq := HostReg.unwritten
    txbuf := []
    status := { s.status with ovr := false }
    trace := s.trace.filter fun e => !e.isDrop
    port := []
    readLog := [] }

/-- The event is a status-register-1 read or a wait, the only events between a sequencer's WREN and its WRSR1 (R216). -/
def Event.readsOrWaits : Event → Bool
  | .frame o _ _ _ _ _ => o == 0x05#8
  | .wait _ => true
  | .cfg _ _ _ | .pin _ _ | .done _ _ | .drop _ => false

/-- The event is the end of an operation. -/
def Event.isDone : Event → Bool
  | .done _ _ => true
  | .cfg _ _ _ | .frame _ _ _ _ _ _ | .pin _ _ | .wait _ | .drop _ => false

end Sys2Proof.Machine

namespace Sys2Proof

open Sys2Proof.Machine

/-! ### The request operations -/

/-- The lines of a request's operation; none for a wire command. -/
def Instr.lines : Instr → Option (List Line)
  | .configure _ => some configureLines
  | .transfer _ | .transferRdsr1 | .transferRdsr2 | .transferRdsr3 | .transferWren | .transferWrsr1 => some transferLines
  | .waitReady _ => some waitReadyLines
  | .enableWrite _ => some enableWriteLines
  | .readDecode _ => some readDecodeLines
  | .releaseLatch _ => some releaseLatchLines
  | .resetProtection _ => some resetProtectionLines
  | .runRecovery _ => some runRecoveryLines
  | .rdsr1 | .rdsr2 | .rdsr3 | .wren | .wrsr1 _ => none

/-- The operations that can write CONFIGURED, CFG, CFG_FREQ and the line mode (R48 item 6). -/
def Instr.configures : Instr → Bool
  | .configure _ | .runRecovery _ => true
  | .transfer _ | .waitReady _ | .enableWrite _ | .readDecode _ | .releaseLatch _ | .resetProtection _ | .rdsr1 | .rdsr2
  | .rdsr3 | .wren | .wrsr1 _ | .transferRdsr1 | .transferRdsr2 | .transferRdsr3 | .transferWren | .transferWrsr1 => false

/-- The operations that can write LATCH_RELEASED and LINES (R48 item 7). -/
def Instr.releases : Instr → Bool
  | .releaseLatch _ | .runRecovery _ => true
  | .configure _ | .transfer _ | .waitReady _ | .enableWrite _ | .readDecode _ | .resetProtection _ | .rdsr1 | .rdsr2
  | .rdsr3 | .wren | .wrsr1 _ | .transferRdsr1 | .transferRdsr2 | .transferRdsr3 | .transferWren | .transferWrsr1 => false

/-- The operation that can write ORCH and STAGE (R236). -/
def Instr.recovers : Instr → Bool
  | .runRecovery _ => true
  | .configure _ | .transfer _ | .waitReady _ | .enableWrite _ | .readDecode _ | .releaseLatch _ | .resetProtection _
  | .rdsr1 | .rdsr2 | .rdsr3 | .wren | .wrsr1 _ | .transferRdsr1 | .transferRdsr2 | .transferRdsr3 | .transferWren
  | .transferWrsr1 => false

/-- The operations that can write SNAP (R187). -/
def Instr.snapshots : Instr → Bool
  | .readDecode _ | .runRecovery _ => true
  | .configure _ | .transfer _ | .waitReady _ | .enableWrite _ | .releaseLatch _ | .resetProtection _ | .rdsr1 | .rdsr2
  | .rdsr3 | .wren | .wrsr1 _ | .transferRdsr1 | .transferRdsr2 | .transferRdsr3 | .transferWren | .transferWrsr1 => false

/-- The operations that wait for readiness, and so write RETRY (R151). -/
def Instr.polls : Instr → Bool
  | .waitReady _ | .enableWrite _ | .resetProtection _ | .runRecovery _ => true
  | .configure _ | .transfer _ | .readDecode _ | .releaseLatch _ | .rdsr1 | .rdsr2 | .rdsr3 | .wren | .wrsr1 _
  | .transferRdsr1 | .transferRdsr2 | .transferRdsr3 | .transferWren | .transferWrsr1 => false

/-- The operations whose sequencer sends WREN (R306). -/
def Instr.handshakes : Instr → Bool
  | .enableWrite _ | .resetProtection _ | .runRecovery _ => true
  | .configure _ | .transfer _ | .waitReady _ | .readDecode _ | .releaseLatch _ | .rdsr1 | .rdsr2 | .rdsr3 | .wren
  | .wrsr1 _ | .transferRdsr1 | .transferRdsr2 | .transferRdsr3 | .transferWren | .transferWrsr1 => false

/-- The operations whose sequencer sends WRSR1 (R216, R306). -/
def Instr.clears : Instr → Bool
  | .resetProtection _ | .runRecovery _ => true
  | .configure _ | .transfer _ | .waitReady _ | .enableWrite _ | .readDecode _ | .releaseLatch _ | .rdsr1 | .rdsr2
  | .rdsr3 | .wren | .wrsr1 _ | .transferRdsr1 | .transferRdsr2 | .transferRdsr3 | .transferWren | .transferWrsr1 => false

/-- The result codes a request can end with: R262's table, a row for each operation. -/
def Instr.codes : Instr → List (BitVec 4)
  | .configure _ => [0, 3, 5]
  | .transfer _ | .transferRdsr1 | .transferRdsr2 | .transferRdsr3 | .transferWren | .transferWrsr1 => [0, 1, 5]
  | .waitReady _ => [0, 1, 2, 5]
  | .enableWrite _ => [0, 1, 2, 4, 5]
  | .readDecode _ => [0, 1, 5]
  | .releaseLatch _ => [0, 5]
  | .resetProtection _ => [0, 1, 2, 4, 5]
  | .runRecovery _ => [0, 1, 2, 3, 4, 5, 6]
  | .rdsr1 | .rdsr2 | .rdsr3 | .wren | .wrsr1 _ => []

end Sys2Proof
end

