-- ==== Sys2Proof/Certificates/Slice0/Obligations.lean ====
section
/-! DEFINITION. The statements for the provers, each from the rules of spec/ that its docstring names. Every statement about a
request holds in states no run reaches; where it could fail there, `State.Inv` or a hypothesis on the state rules them out.
The claims about an operation's result hold for every environment: they are stated over the replies it gives. -/

open Sys2Proof Sys2Proof.Machine Sys2Proof.Config

/-! ### Encoding -/

/-- Decoding the encoding of a well-formed instruction gives it back, for every instruction and operand (R85, R86, R90, R98). -/
def Obligations.DecodeEncodeAgree : Prop :=
  ∀ i : Instr, i.wf = true → decode (encode i) = .ok i

/-- A request word decodes to an instruction exactly when it is that instruction's encoding: no bit of the word is dropped
(R85, R86, R98). -/
def Obligations.RequestDecodingIsExact : Prop :=
  ∀ (w : Word) (i : Instr), decodeRequest w = .ok i ↔ encode i = .request w ∧ i.wf = true

/-- A frame's bits decode to a wire command exactly when they begin with that command's bits (R81, R83, R90). -/
def Obligations.FrameDecodingIsExact : Prop :=
  ∀ (bits rest : List Bool) (i : Instr),
    decodeFrame bits = .ok (i, rest) ↔ ∃ own, encode i = .frame own ∧ bits = own ++ rest

/-- The request words that decode to nothing are those of R93, and the frames whose first byte is none of the five opcodes are
refused (R92, R93). -/
def Obligations.ReservedEncodingsDoNotDecode : Prop :=
  (∀ w : Word, (∃ e, decodeRequest w = .error e) ↔ rsvField w ≠ 0#3 ∨ opField w = 0#4 ∨ 9#4 ≤ opField w) ∧
    ∀ (opc : Byte) (rest : List Bool), opc ∉ [0x05#8, 0x35#8, 0x15#8, 0x06#8, 0x01#8] →
      decodeFrame (wireBits opc ++ rest) = .error (.reservedOpcode opc)

/-- A request word is `OP | ARG<<4 | AP<<12 | NW<<13 | NR<<21`, and each field reads back (R85). -/
def Obligations.RequestWordLayout : Prop :=
  ∀ (op : BitVec 4) (f : Fields),
    requestWord op f = op.setWidth 32 ||| (f.arg.setWidth 32 <<< 4) ||| (f.ap.setWidth 32 <<< 12) |||
        (f.nw.setWidth 32 <<< 13) ||| (f.nr.setWidth 32 <<< 21) ∧
      opField (requestWord op f) = op ∧ rsvField (requestWord op f) = 0#3 ∧ fieldsOf (requestWord op f) = f

/-- A few words written out from the spec's encodings decode to their instructions (R90, R98, R99, 95 L2-E10). -/
def Obligations.WrittenOutWordsDecode : Prop :=
  decodeRequest 0x00000181#32 = .ok (.configure ⟨24#8, 0#1, 0#8, 0#8⟩) ∧
    decodeRequest 0x002009F2#32 = .ok (.transfer ⟨0x9F#8, 0#1, 0#8, 1#8⟩) ∧
    decodeRequest 0x00200052#32 = .ok .transferRdsr1 ∧
    decodeRequest 0x00000003#32 = .ok (.waitReady ⟨0#8, 0#1, 0#8, 0#8⟩) ∧
    decodeRequest 0x00000188#32 = .ok (.runRecovery ⟨24#8, 0#1, 0#8, 0#8⟩) ∧
    decodeFrame [false, false, true, true, false, true, false, true] = .ok (.rdsr2, []) ∧
    decodeFrame [false, false, false, false, false, false, false, true, true, false, false, false, false, false, false, false] =
      .ok (.wrsr1 0x80#8, [])

/-- A pseudo-instruction expands to its TRANSFER and has its word (R98). That the assembled text ends with the wait for the
statement's end, and that a payload byte stands in the low eight bits of its write, are the model's choices (R97, log entries 22
and 26). -/
def Obligations.PseudoInstructionWords : Prop :=
  ∀ v : Byte,
    (Statement.rdsr1.expand = .transfer 0x05#8 none [] 1#8 ∧ Statement.rdsr1.word = 0x00200052#32) ∧
    (Statement.rdsr2.expand = .transfer 0x35#8 none [] 1#8 ∧ Statement.rdsr2.word = 0x00200352#32) ∧
    (Statement.rdsr3.expand = .transfer 0x15#8 none [] 1#8 ∧ Statement.rdsr3.word = 0x00200152#32) ∧
    (Statement.wren.expand = .transfer 0x06#8 none [] 0#8 ∧ Statement.wren.word = 0x00000062#32) ∧
    ((Statement.wrsr1 v).expand = .transfer 0x01#8 none [v] 0#8 ∧ (Statement.wrsr1 v).word = 0x00002012#32 ∧
      (Statement.wrsr1 v).assemble = [.write 0x40 .byte (v.setWidth 32), .write 0x00 .word 0x00002012#32, .await])

/-- The bits the block sends and the bits it clocks in make up R95's frame length; the five commands take 16, 16, 16, 8 and 16
clocks (R80, R95, R309). -/
def Obligations.FrameLengthInClocks : Prop :=
  (∀ (f : WireFrame) (aw : Nat), aw % 8 = 0 →
    (f.outBits aw).length + 8 * f.nr = 8 + (if f.addr.isSome then aw else 0) + 8 * (f.tx.length + f.nr) ∧
      f.clocks aw = (f.outBits aw).length + 8 * f.nr) ∧
    ∀ (v : Byte) (aw : Nat),
      rdsr1Frame.clocks aw = 16 ∧ rdsr2Frame.clocks aw = 16 ∧ rdsr3Frame.clocks aw = 16 ∧ wrenFrame.clocks aw = 8 ∧
        (wrsr1Frame v).clocks aw = 16

/-- The address phase sends the address's bits from `ADDR_W` - 1 down to 0 (R63, R64, R82). -/
def Obligations.AddressPhaseIsMostSignificantFirst : Prop :=
  ∀ (a : Word) (aw : Nat), aw % 8 = 0 →
    addressBits a (aw / 8) = (List.range aw).map fun k => a.getLsbD (aw - 1 - k)

/-! ### The step -/

/-- A step of an idle block whose host writes a request word runs the instruction the word decodes to (R88). -/
def Obligations.StepRunsTheRequest : Prop :=
  ∀ (s : State) (w : Word) (i : Instr) (rest : List Act),
    s.status.active = false → s.port = .write 0x00 .word w :: rest → decodeRequest w = .ok i →
      step s = exec i { s with port := rest }

/-- A step of a running operation whose next line sends a frame runs the wire command that the frame's bits are, after what
the outside world does first; and that command sends exactly that frame (R80, R90, R113). That the outside world's acts up to the
next pause come first, and that a line which sends a frame is taken up as a wire command, are the model's choices (log entries 7
and 8). -/
def Obligations.StepRunsTheWireCommand : Prop :=
  ∀ (s u : State) (f : WireFrame) (i : Instr),
    s.status.active = true → deliver s.port s = u → u.status.active = true → nextFrame u = some f → f.admitted = true →
      decodeFrame (f.outBits u.cfg.aw.toNat) = .ok (i, []) → step s = exec i u ∧ exec i u = .next (xfer f u)

/-- A step of a running operation is one round: what the outside world does before the next line, and that line. The lines come in
the order of the pseudocode, one event after another (R36, R71); where the host's accesses fall between them, and what counts as a
line, are the model's choices (log entries 7 and 10). -/
def Obligations.ActiveStepIsOneRound : Prop :=
  ∀ s : State, s.status.active = true → step s = .next (round s)

/-- A reserved request word is accepted by an idle block and ends at once with RequestRejected; its only event is its `Done`
(R93). -/
def Obligations.ReservedWordIsRejected : Prop :=
  ∀ (s : State) (w : Word) (rest : List Act),
    s.status.active = false → s.port = .write 0x00 .word w :: rest →
      (rsvField w ≠ 0#3 ∨ opField w = 0x0#4 ∨ 0x9#4 ≤ opField w) →
        step s = .next (State.rejected { s with port := rest } w)

/-- A REQ write while an operation runs is dropped, whatever its word: OVR and a `Drop` event, and nothing else (R88, R270). The
first clause is the host's write, the second that write among the acts of a round (log entry 7), and the third the meaning of a
request at a state with ACTIVE = 1, which no step runs. -/
def Obligations.RequestWhileActiveIsDropped : Prop :=
  (∀ (v : Word) (s : State), s.status.active = true →
    hostWrite 0x00 .word v s =
      .next { s with status := { s.status with ovr := true }, trace := s.trace ++ [.drop v] }) ∧
    (∀ (v : Word) (rest : List Act) (s : State), s.status.active = true →
      deliver (.write 0x00 .word v :: rest) s =
        deliver rest { s with status := { s.status with ovr := true }, trace := s.trace ++ [.drop v] }) ∧
    ∀ (i : Instr) (w : Word) (s : State), encode i = .request w → s.status.active = true →
      exec i s = .next { s with status := { s.status with ovr := true }, trace := s.trace ++ [.drop w] }

/-- A request's meaning is the run of its lines, one step of the machine for each, from its acceptance to ACTIVE = 0, whatever
the environment answers and the host does (R36, R88, R308). It justifies the model's choices of what one step runs, where the
host's accesses fall and what counts as a line (log entries 18, 7 and 10). -/
def Obligations.RequestIsTheRunOfItsSteps : Prop :=
  ∀ (i : Instr) (w : Word) (ls : List Line) (s : State),
    encode i = .request w → i.lines = some ls → s.status.active = false →
      ∃ (n : Nat) (t : State),
        Host.Core.run Sys2Proof.core n (accept w (ls ++ [.endOk]) s) = .next t ∧ t.status.active = false ∧
          exec i s = .next t ∧
          ∀ (m : Nat) (u : State), m < n →
            Host.Core.run Sys2Proof.core m (accept w (ls ++ [.endOk]) s) = .next u → u.status.active = true

/-- Every request of an idle block ends, with exactly one `Done`, as its last event, and after at most 14·10000 + 3 others
(R89, R244, R263). -/
def Obligations.EveryRequestEndsOnce : Prop :=
  ∀ (i : Instr) (w : Word) (s : State), encode i = .request w → s.ready →
    ∃ (t : State) (evs : List Event),
      exec i s = .next t ∧ t.status.active = false ∧ t.status.ovr = false ∧ t.ptr = [] ∧ t.result.op = opField w ∧
        t.trace = s.trace ++ evs ++ [.done (opField w) t.result.code] ∧ evs.length ≤ 14 * 10000 + 3 ∧
        ∀ e ∈ evs, e.isDone = false ∧ e.isDrop = false

/-- No host access changes a running operation: two hosts that write and read what they like leave the same block, but for the
live operand registers, OVR and the `Drop` events (R37, R46, R297). -/
def Obligations.HostAccessesDoNotInterfere : Prop :=
  ∀ (i : Instr) (w : Word) (s t u : State) (p q : List Act),
    encode i = .request w → s.status.active = false → (∀ a ∈ p, a.access = true) → (∀ a ∈ q, a.access = true) →
      exec i { s with port := p } = .next t → exec i { s with port := q } = .next u → t.unhosted = u.unhosted

/-! ### Invariants -/

/-- The invariant holds right after reset (R48, R49). -/
def Obligations.ResetMeetsInvariant : Prop := State.reset.Inv

/-- Every step keeps the invariant, from every state that meets it (R48). -/
def Obligations.EveryStepKeepsInvariant : Prop :=
  ∀ s t : State, s.Inv → step s = .next t → t.Inv

/-- Until a block reset, CONFIGURED, LATCH_RELEASED and a passive line stay as they are once set, the trace only grows, and a
terminal orchestrator state stays (R40, R48, R205, R236, R290). -/
def Obligations.SessionStateOnlyGrows : Prop :=
  ∀ s t : State, step s = .next t → Act.reset ∉ s.port →
    (s.status.configured = true → t.status.configured = true) ∧
      (s.status.latchReleased = true → t.status.latchReleased = true) ∧
      (∀ d : DataLine, s.lineRole.get d = .passiveIn → t.lineRole.get d = .passiveIn) ∧
      s.trace <+: t.trace ∧
      (s.status.active = false → s.status.orch = 5#3 ∨ s.status.orch = 7#3 →
        t.status.orch = s.status.orch ∧ t.status.stage = s.status.stage)

/-- What a request leaves alone: only CONFIGURE and RUN_RECOVERY write CONFIGURED, CFG, CFG_FREQ and the line mode, only
RELEASE_LATCH and RUN_RECOVERY write LATCH_RELEASED, LINES and the pins, only RUN_RECOVERY writes ORCH and STAGE, only
READ_DECODE and RUN_RECOVERY write SNAP, only operations that wait write RETRY, only a TransportError or a
ConfigurationFailure writes ERR_STATUS, and RXBUF changes in its first element alone (R26, R35, R48, R187, R236). -/
def Obligations.OnlyTheNamedOperationsWrite : Prop :=
  ∀ (i : Instr) (w : Word) (s t : State), encode i = .request w → s.ready → exec i s = .next t →
    (t.addr = s.addr ∧ t.freq = s.freq ∧ t.txbuf = s.txbuf ∧ t.params = s.params ∧ t.port = s.port ∧
      t.readLog = s.readLog) ∧
      (i.configures = false →
        t.status.configured = s.status.configured ∧ t.cfg = s.cfg ∧ t.xferMode = s.xferMode) ∧
      (i.releases = false →
        t.status.latchReleased = s.status.latchReleased ∧ t.lineRole = s.lineRole ∧ t.pinCalls = s.pinCalls) ∧
      (i.recovers = false → t.status.orch = s.status.orch ∧ t.status.stage = s.status.stage) ∧
      (i.snapshots = false → t.snap = s.snap) ∧
      (i.polls = false → t.retry = s.retry) ∧
      (t.result.code ≠ 0x1#4 → t.result.code ≠ 0x3#4 → t.errStatus = s.errStatus) ∧
      ∀ j : Nat, j ≠ 0x80 → t.rxbuf.read j = s.rxbuf.read j

/-! ### Reset and the host's registers -/

/-- The reset value of every piece of block state (R49); an unspecified register is unwritten, and an operation that reads one
reads a draw. -/
def Obligations.ResetValues : Prop :=
  State.reset.status.active = false ∧ State.reset.status.configured = false ∧
    State.reset.status.latchReleased = false ∧ State.reset.status.snapValid = false ∧ State.reset.status.ovr = false ∧
    State.reset.status.orch = 0#3 ∧ State.reset.status.stage = 0#3 ∧
    State.reset.result = ⟨0xF#4, 0#4, 0#8, 0#8, false, false⟩ ∧ State.reset.errStatus = 0#32 ∧
    (∀ e : Env, readOperand State.reset.addr e = e.draw ∧ readOperand State.reset.freq e = e.draw) ∧
    State.reset.snap.written = false ∧ State.reset.cfg.aw = 0#8 ∧ State.reset.cfg.freq = 0#32 ∧
    State.reset.retry = 0#14 ∧ (∀ d : DataLine, State.reset.lineRole.get d = .bus) ∧
    (∀ (i : Nat) (e : Env), State.reset.txbuf.read i = none ∧ State.reset.rxbuf.read i = none ∧
      readPayload State.reset.txbuf i e = (e.draw.1.setWidth 8, e.draw.2)) ∧
    (∀ e : Env, readOperand State.reset.lat.addr e = e.draw ∧ readOperand State.reset.lat.freq e = e.draw) ∧
    (∀ (i : Nat) (e : Env), readPayload State.reset.lat.txbuf i e = (e.draw.1.setWidth 8, e.draw.2)) ∧
    State.reset.ptr = [] ∧ State.reset.xferMode = .unset ∧ State.reset.trace = []

/-- Block reset gives every item of block state its reset value, idle or not; the parameters and the host's record stay, and
the flash's state after a reset that cuts an operation short is open (R290, R292, R293, log entry 13). -/
def Obligations.BlockResetRestoresResetValues : Prop :=
  ∀ (s : State) (rest : List Act), s.port = .reset :: rest →
    step s = .next
      { State.reset with
        params := s.params
        env := if s.status.active then { s.env with responder := none } else s.env
        port := rest
        readLog := s.readLog
        pinCalls := s.pinCalls }

/-- Host accesses: a write to a read-only register has no effect; a write to ADDR, FREQ or TXBUF sets the whole register or
byte, while an operation runs too; a read changes nothing of the block; and no write but one to REQ touches a register that
the sequencer owns (R46). Three things about the buffers are the model's choice: an index that lies in both is left out (log entry
6), elements at 0x100 and above are there as R22 has them (log entry 11), and a byte is the low eight bits of the value (log entry
26). -/
def Obligations.HostAccessRules : Prop :=
  (∀ (s : State) (i : Nat) (v : Word), i ∈ [0x0C, 0x10, 0x14, 0x18, 0x1C, 0x20, 0x24, 0x28, 0x2C] →
    hostWrite i .word v s = .next s) ∧
    (∀ (s : State) (k : Nat) (v : Word), k < s.params.maxPayload → inTx s.params (0x80 + k) = false →
      hostWrite (0x80 + k) .byte v s = .next s) ∧
    (∀ (s : State) (v : Word),
      hostWrite 0x04 .word v s = .next { s with addr := ⟨v, true⟩ } ∧
        hostWrite 0x08 .word v s = .next { s with freq := ⟨v, true⟩ }) ∧
    (∀ (s : State) (k : Nat) (v : Word), k < s.params.maxPayload → inRx s.params (0x40 + k) = false →
      hostWrite (0x40 + k) .byte v s = .next { s with txbuf := s.txbuf.write (0x40 + k) (v.setWidth 8) }) ∧
    (∀ (s t : State) (i : Nat) (wd : Width), hostRead i wd s = .next t → t = { s with readLog := t.readLog }) ∧
    ∀ (s t : State) (i : Nat) (wd : Width) (v : Word), i ≠ 0x00 → hostWrite i wd v s = .next t →
      t.status = s.status ∧ t.result = s.result ∧ t.errStatus = s.errStatus ∧ t.snap = s.snap ∧ t.cfg = s.cfg ∧
        t.retry = s.retry ∧ t.lineRole = s.lineRole ∧ t.rxbuf = s.rxbuf ∧ t.lat = s.lat ∧ t.ptr = s.ptr ∧
        t.trace = s.trace ∧ t.xferMode = s.xferMode

/-- What a host read of each index gives, and the accesses the model refuses (R22 to R35, R60, R65). The model's choices among
them: ADDR, FREQ, SNAP, DECODED and buffer bytes that nothing has written read as a free value (log entry 4); SNAP and DECODED read
as the stored bytes also when they are stale (log entry 25, R29 against 93 B3); a byte reads zero-extended (log entry 26); buffer
elements at 0x100 and above are there as R22 has them, every other index from 0x100 on is refused (log entry 11), and an index that
lies in both buffers is left out (log entry 6). -/
def Obligations.HostReadValues : Prop :=
  (∀ (s : State) (i : Nat) (wd : Width) (rest : List Act), s.status.active = false → s.port = .read i wd :: rest →
    step s = hostRead i wd { s with port := rest }) ∧
    (∀ s : State,
      hostRead 0x00 .word s = .next (s.logRead 0#32) ∧
        hostRead 0x04 .word s = .next (s.logRead (if s.addr.written then s.addr.value else s.openRead)) ∧
        hostRead 0x08 .word s = .next (s.logRead (if s.freq.written then s.freq.value else s.openRead)) ∧
        (s.status.orch ≠ 6#3 → hostRead 0x0C .word s = .next (s.logRead s.status.word)) ∧
        (reservedCode s.result.code = false → hostRead 0x10 .word s = .next (s.logRead s.result.word)) ∧
        hostRead 0x14 .word s = .next (s.logRead s.errStatus) ∧
        (s.snap.written = true →
          hostRead 0x18 .word s = .next (s.logRead (snapWord s.snap.sr1 s.snap.sr2 s.snap.sr3)) ∧
            hostRead 0x1C .word s =
              .next (s.logRead (decodeStatus s.params.srLayout s.snap.sr1 s.snap.sr2 s.snap.sr3).word)) ∧
        (s.snap.written = false →
          hostRead 0x18 .word s = .next (s.logRead ((s.openRead.setWidth 24).setWidth 32)) ∧
            hostRead 0x1C .word s =
              .next (s.logRead (decodeStatus s.params.srLayout (s.openRead.extractLsb' 0 8) (s.openRead.extractLsb' 8 8)
                (s.openRead.extractLsb' 16 8)).word)) ∧
        hostRead 0x20 .word s = .next (s.logRead (s.cfg.aw.setWidth 32)) ∧
        hostRead 0x24 .word s = .next (s.logRead s.cfg.freq) ∧
        hostRead 0x28 .word s = .next (s.logRead (s.retry.setWidth 32)) ∧
        hostRead 0x2C .word s = .next (s.logRead s.lineRole.word)) ∧
    (∀ (s : State) (k : Nat), k < s.params.maxPayload →
      (inRx s.params (0x40 + k) = false →
        (∀ b : Byte, s.txbuf.read (0x40 + k) = some b →
          hostRead (0x40 + k) .byte s = .next (s.logRead (b.setWidth 32))) ∧
          (s.txbuf.read (0x40 + k) = none →
            hostRead (0x40 + k) .byte s = .next (s.logRead ((s.openRead.setWidth 8).setWidth 32)))) ∧
        (inTx s.params (0x80 + k) = false →
          (∀ b : Byte, s.rxbuf.read (0x80 + k) = some b →
            hostRead (0x80 + k) .byte s = .next (s.logRead (b.setWidth 32))) ∧
            (s.rxbuf.read (0x80 + k) = none →
              hostRead (0x80 + k) .byte s = .next (s.logRead ((s.openRead.setWidth 8).setWidth 32))))) ∧
    (∀ (s : State) (i : Nat) (v : Word), 0x30 ≤ i → i < 0x100 → i % 4 = 0 → inTx s.params i = false →
      inRx s.params i = false → hostRead i .word s = .next (s.logRead 0#32) ∧ hostWrite i .word v s = .next s) ∧
    ∀ (s : State) (i : Nat) (wd : Width) (v : Word),
      (inTx s.params i = false ∧ inRx s.params i = false ∧ (i % 4 ≠ 0 ∨ 0x100 ≤ i ∨ wd ≠ .word)) ∨
          ((inTx s.params i = true ∨ inRx s.params i = true) ∧ wd ≠ .byte) →
        hostRead i wd s = .refused .outsideInterface ∧ hostWrite i wd v s = .refused .outsideInterface

/-- Where the fields of STATUS, RESULT, SNAP and LINES stand in the words the host reads; the bits left over read as 0 (R24,
R25, R29, R33). -/
def Obligations.RegisterWordLayout : Prop :=
  (∀ st : Status,
    st.word.getLsbD 0 = st.active ∧ st.word.getLsbD 1 = st.configured ∧ st.word.getLsbD 2 = st.latchReleased ∧
      st.word.getLsbD 3 = st.snapValid ∧ st.word.getLsbD 4 = st.ovr ∧ st.word.extractLsb' 5 3 = st.stage ∧
      st.word.extractLsb' 8 3 = st.orch ∧ st.word.extractLsb' 11 21 = 0#21) ∧
    (∀ r : Result,
      r.word.extractLsb' 0 4 = r.code ∧ r.word.extractLsb' 4 4 = r.op ∧ r.word.extractLsb' 8 8 = r.errOpc ∧
        r.word.extractLsb' 16 8 = r.errSr1 ∧ r.word.getLsbD 24 = r.errOpcValid ∧ r.word.getLsbD 25 = r.errSr1Valid ∧
        r.word.extractLsb' 26 6 = 0#6) ∧
    (∀ b1 b2 b3 : Byte,
      (snapWord b1 b2 b3).extractLsb' 0 8 = b1 ∧ (snapWord b1 b2 b3).extractLsb' 8 8 = b2 ∧
        (snapWord b1 b2 b3).extractLsb' 16 8 = b3 ∧ (snapWord b1 b2 b3).extractLsb' 24 8 = 0#8) ∧
    ∀ l : LineRoles,
      l.word.getLsbD 0 = (l.d0 == .passiveIn) ∧ l.word.getLsbD 1 = (l.d1 == .passiveIn) ∧
        l.word.getLsbD 2 = (l.d2 == .passiveIn) ∧ l.word.getLsbD 3 = (l.d3 == .passiveIn) ∧
        l.word.extractLsb' 4 28 = 0#28

/-- The decode function under the default layout, and the word DECODED (R182). -/
def Obligations.DecodeUnderDefaultLayout : Prop :=
  ∀ b1 b2 b3 : Byte,
    decodeStatus SrLayout.standard b1 b2 b3 =
        { busy := b1.getLsbD 0
          wel := b1.getLsbD 1
          bp := b1.extractLsb' 2 5
          srp0 := b1.getLsbD 7
          srp1 := b2.getLsbD 0
          qe := b2.getLsbD 1
          drv := b3.extractLsb' 5 2 } ∧
      (decodeStatus SrLayout.standard b1 b2 b3).word =
        (b3.extractLsb' 5 2 ++ b2.extractLsb' 1 1 ++ b2.extractLsb' 0 1 ++ b1).setWidth 32

/-- Every legal address width is a multiple of 8, not 0 and at most 32 (R7). -/
def Obligations.LegalWidthsAreBounded : Prop :=
  ∀ (l : LegalAw) (aw : Word), l.admits aw = true → aw ≠ 0#32 ∧ aw.toNat % 8 = 0 ∧ aw.toNat ≤ 32

/-! ### CONFIGURE and the refusals -/

/-- CONFIGURE with a legal width and frequency configures the bus (R141, R142, R143). -/
def Obligations.ConfigureCompletes : Prop :=
  ∀ (f : Fields) (s : State), s.ready → s.status.configured = false →
    s.params.legalAw.admits (f.arg.setWidth 32) = true →
    s.params.legalFreq.contains (readOperand s.freq s.env).1 = true →
      exec (.configure f) s = .next
        { s.ended (requestWord 0x1#4 f) (Result.success 0x1#4)
            [.cfg (f.arg.setWidth 32) (readOperand s.freq s.env).1 true] with
          status := { s.status with active := false, ovr := false, configured := true }
          cfg := ⟨f.arg, (readOperand s.freq s.env).1⟩
          xferMode := .single
          env := (readOperand s.freq s.env).2 }

/-- CONFIGURE with an illegal width or frequency ends with ConfigurationFailure and the transport's status, which is not 0,
and configures nothing (R141, R142, R144, R146). -/
def Obligations.ConfigureWithIllegalFormatFails : Prop :=
  ∀ (f : Fields) (s : State) (freq cst : Word) (e e' : Env), s.ready → s.status.configured = false →
    readOperand s.freq s.env = (freq, e) → transportConfigure s.params (f.arg.setWidth 32) freq e = (cst, e') →
    s.params.legalAw.admits (f.arg.setWidth 32) = false ∨ s.params.legalFreq.contains freq = false →
      cst ≠ 0#32 ∧
        exec (.configure f) s = .next
          { s.ended (requestWord 0x1#4 f) (Result.misconfigured 0x1#4) [.cfg (f.arg.setWidth 32) freq false] with
            errStatus := cst
            env := e' }

/-- CONFIGURE of a configured bus is refused: it changes nothing, calls no transport and emits no `Cfg` (R145). -/
def Obligations.ConfigureTwiceIsRefused : Prop :=
  ∀ (f : Fields) (s : State), s.ready → s.status.configured = true →
    exec (.configure f) s = .next (s.rejected (requestWord 0x1#4 f))

/-- Before the bus is configured every operation but CONFIGURE and RUN_RECOVERY is refused, and a second RELEASE_LATCH is
refused; nothing happens on the bus or the pins (R110, R144, R200, R205, R208, R294). -/
def Obligations.PreconditionsRefuse : Prop :=
  (∀ (i : Instr) (w : Word) (s : State), encode i = .request w → i.configures = false → s.ready →
    s.status.configured = false → exec i s = .next (s.rejected w)) ∧
    ∀ (f : Fields) (s : State), s.ready → s.status.configured = true → s.status.latchReleased = true →
      exec (.releaseLatch f) s = .next (s.rejected (requestWord 0x6#4 f))

/-! ### TRANSFER and the wire commands -/

/-- A TRANSFER without an address and with its opcode's shape sends one frame; when the frame succeeds the operation does
(R87, R110, R113, R114, R116). The statement covers the word of every constructor that is a TRANSFER. -/
def Obligations.TransferSendsItsFrame : Prop :=
  ∀ (i : Instr) (w : Word) (s : State) (f : Fields) (tx rx : List Byte) (e e' : Env),
    encode i = .request w → opField w = 0x2#4 → fieldsOf w = f → s.ready → s.status.configured = true →
    s.xferMode = .single → f.ap = 0#1 → shapeOf f.arg = some (f.nw.toNat, f.nr.toNat) →
    memRead s.txbuf 0x40 f.nw.toNat s.env = (tx, e) →
    busFrame s.params s.latchRole ⟨f.arg, none, tx, f.nr.toNat⟩ e = (⟨0#32, rx⟩, e') →
      exec i s = .next
        { s.ended w (Result.success 0x2#4) [.frame f.arg none tx f.nr.toNat 0#32 rx] with
          status := { s.status with active := false, ovr := false, snapValid := s.status.snapValid && !stales f.arg }
          rxbuf := s.rxbuf.writeBytes 0x80 rx
          env := e' }

/-- The five pseudo rows, each with its frame (R98, R118 to R122). -/
def Obligations.PseudoTransfersComplete : Prop :=
  (∀ (s : State) (b : Byte) (e' : Env), s.ready → s.status.configured = true → s.xferMode = .single →
    (Env.reads s.params s.latchRole rdsr1Frame [b] s.env e' →
      exec .transferRdsr1 s = .next
        { s.ended 0x00200052#32 (Result.success 0x2#4) [readEvent 0x05#8 b] with
          rxbuf := s.rxbuf.write 0x80 b
          env := e' }) ∧
      (Env.reads s.params s.latchRole rdsr2Frame [b] s.env e' →
        exec .transferRdsr2 s = .next
          { s.ended 0x00200352#32 (Result.success 0x2#4) [readEvent 0x35#8 b] with
            rxbuf := s.rxbuf.write 0x80 b
            env := e' }) ∧
      (Env.reads s.params s.latchRole rdsr3Frame [b] s.env e' →
        exec .transferRdsr3 s = .next
          { s.ended 0x00200152#32 (Result.success 0x2#4) [readEvent 0x15#8 b] with
            rxbuf := s.rxbuf.write 0x80 b
            env := e' }) ∧
      (Env.acks s.params s.latchRole wrenFrame s.env e' →
        exec .transferWren s = .next
          { s.ended 0x00000062#32 (Result.success 0x2#4) [wrenEvent] with
            status := { s.status with active := false, ovr := false, snapValid := false }
            env := e' })) ∧
    ∀ (s : State) (v : Byte) (e e' : Env), s.ready → s.status.configured = true → s.xferMode = .single →
      readPayload s.txbuf 0x40 s.env = (v, e) → Env.acks s.params s.latchRole (wrsr1Frame v) e e' →
        exec .transferWrsr1 s = .next
          { s.ended 0x00002012#32 (Result.success 0x2#4) [.frame 0x01#8 none [v] 0 0#32 []] with
            status := { s.status with active := false, ovr := false, snapValid := false }
            env := e' }

/-- A TRANSFER whose frame fails ends with TransportError, the frame's opcode and its status; RXBUF is left alone, and a WREN
or WRSR1 stales the snapshot all the same (R110, R113, R114, R115, R116). -/
def Obligations.TransferWithFailedFrame : Prop :=
  ∀ (i : Instr) (w : Word) (s : State) (f : Fields) (tx : List Byte) (st : Word) (e e' : Env),
    encode i = .request w → opField w = 0x2#4 → fieldsOf w = f → s.ready → s.status.configured = true →
    s.xferMode = .single → f.ap = 0#1 → shapeOf f.arg = some (f.nw.toNat, f.nr.toNat) →
    memRead s.txbuf 0x40 f.nw.toNat s.env = (tx, e) →
    Env.fails s.params s.latchRole ⟨f.arg, none, tx, f.nr.toNat⟩ st e e' →
      exec i s = .next
        { s.ended w (Result.transport 0x2#4 f.arg) [.frame f.arg none tx f.nr.toNat st []] with
          status := { s.status with active := false, ovr := false, snapValid := s.status.snapValid && !stales f.arg }
          errStatus := st
          env := e' }

/-- A TRANSFER that R111 calls malformed sends no frame and ends with TransportError and the status 0xFFFFFFFF (R90, R91, R92,
R111). -/
def Obligations.MalformedTransferSendsNothing : Prop :=
  ∀ (i : Instr) (w : Word) (s : State) (f : Fields),
    encode i = .request w → opField w = 0x2#4 → fieldsOf w = f → s.ready → s.status.configured = true →
    (f.arg ∉ [0x05#8, 0x35#8, 0x15#8, 0x06#8, 0x01#8] ∨ s.params.maxPayload < f.nw.toNat ∨
      s.params.maxPayload < f.nr.toNat ∨ f.ap = 1#1 ∨ (0 < f.nw.toNat ∧ 0 < f.nr.toNat) ∨
      (f.arg, f.nw, f.nr) ∉ [(0x05#8, 0#8, 1#8), (0x35#8, 0#8, 1#8), (0x15#8, 0#8, 1#8), (0x06#8, 0#8, 0#8),
        (0x01#8, 1#8, 0#8)]) →
      exec i s = .next
        { s.ended w (Result.transport 0x2#4 f.arg) [] with
          errStatus := 0xFFFFFFFF#32
          env := if f.ap = 1#1 then (readOperand s.addr s.env).2 else s.env }

/-- A wire command whose frame succeeds, at whatever line sends it: the frame is in the trace, a read's byte is in RXBUF and
with the line that asked, WREN and WRSR1 stale the snapshot, and the step pointer moves on (R113, R114, R116, R118 to R122). -/
def Obligations.WireCommandsComplete : Prop :=
  ∀ (s : State) (b v : Byte) (e' : Env), s.xferMode = .single →
    (Env.reads s.params s.latchRole rdsr1Frame [b] s.env e' →
      exec .rdsr1 s = .next
        { s with
          trace := s.trace ++ [readEvent 0x05#8 b]
          rxbuf := s.rxbuf.write 0x80 b
          locals := s.locals.keep s.ptr [b]
          ptr := nextLines s.ptr
          env := e' }) ∧
      (Env.reads s.params s.latchRole rdsr2Frame [b] s.env e' →
        exec .rdsr2 s = .next
          { s with
            trace := s.trace ++ [readEvent 0x35#8 b]
            rxbuf := s.rxbuf.write 0x80 b
            locals := s.locals.keep s.ptr [b]
            ptr := nextLines s.ptr
            env := e' }) ∧
      (Env.reads s.params s.latchRole rdsr3Frame [b] s.env e' →
        exec .rdsr3 s = .next
          { s with
            trace := s.trace ++ [readEvent 0x15#8 b]
            rxbuf := s.rxbuf.write 0x80 b
            locals := s.locals.keep s.ptr [b]
            ptr := nextLines s.ptr
            env := e' }) ∧
      (Env.acks s.params s.latchRole wrenFrame s.env e' →
        exec .wren s = .next
          { s with
            status := { s.status with snapValid := false }
            trace := s.trace ++ [wrenEvent]
            ptr := nextLines s.ptr
            env := e' }) ∧
      (Env.acks s.params s.latchRole (wrsr1Frame v) s.env e' →
        exec (.wrsr1 v) s = .next
          { s with
            status := { s.status with snapValid := false }
            trace := s.trace ++ [.frame 0x01#8 none [v] 0 0#32 []]
            ptr := nextLines s.ptr
            env := e' })

/-- A wire command whose frame fails ends the operation that sent it with TransportError, its opcode and its status; inside
RUN_RECOVERY the orchestrator aborts, and a failed read of READ_DECODE drops the snapshot (R89, R113, R116, R188, R234). -/
def Obligations.WireCommandWithFailedFrame : Prop :=
  ∀ (i : Instr) (f : WireFrame) (v : Byte) (s : State) (st : Word) (e' : Env),
    (i, f) ∈ [(.rdsr1, rdsr1Frame), (.rdsr2, rdsr2Frame), (.rdsr3, rdsr3Frame), (.wren, wrenFrame),
      (.wrsr1 v, wrsr1Frame v)] →
    s.xferMode = .single → Env.fails s.params s.latchRole f st s.env e' →
      exec i s = .next
        { s with
          result := Result.transport s.latOp f.opc
          errStatus := st
          status :=
            { s.status with
              active := false
              snapValid :=
                s.status.snapValid && !stales f.opc && !((s.ptr.head?.map Line.readsSnapshot).getD false)
              orch := if s.latOp = 0x8#4 then 7#3 else s.status.orch }
          ptr := []
          locals := Locals.clear
          trace := s.trace ++ [.frame f.opc none f.tx f.nr st [], .done s.latOp 0x1#4]
          env := e' }

/-- A successful read frame writes its bytes to RXBUF from the first element on and nothing else there; a frame that reads
nothing or fails leaves RXBUF as it is (R114). -/
def Obligations.ReadPayloadGoesToRxbuf : Prop :=
  ∀ (f : WireFrame) (s : State), s.xferMode = .single → f.admitted = true →
    ((s.reply f).st = 0#32 →
      (∀ k : Nat, k < f.nr → (xfer f s).rxbuf.read (0x80 + k) = (s.reply f).rx[k]?) ∧
        ∀ j : Nat, j < 0x80 ∨ 0x80 + f.nr ≤ j → (xfer f s).rxbuf.read j = s.rxbuf.read j) ∧
      (f.nr = 0 ∨ (s.reply f).st ≠ 0#32 → (xfer f s).rxbuf = s.rxbuf)

/-- A successful frame brings as many bytes as it asks for, and in the normative environment every reply that R112 allows is
given by some draws (R112). -/
def Obligations.EnvironmentGivesEveryReply : Prop :=
  (∀ (p : Params) (l : LineRole) (f : WireFrame) (e : Env), f.admitted = true →
    (busFrame p l f e).1.st = 0#32 → (busFrame p l f e).1.rx.length = f.nr) ∧
    ∀ (p : Params) (l : LineRole) (f : WireFrame) (st : Word) (rx : List Byte) (ds : List Word) (n : Nat),
      (st = 0#32 → rx.length = f.nr) → (st ≠ 0#32 → rx = []) →
        ∃ now : List Word, busFrame p l f ⟨none, now ++ ds, n⟩ = (⟨st, rx⟩, ⟨none, ds, n⟩)

/-! ### WAIT_READY -/

/-- WAIT_READY whose k-th read is the first to read BUSY clear returns OK after k reads and k - 1 waits, with RETRY at
10000 - (k - 1) (R151, R152, R153, R159). -/
def Obligations.WaitReadyCompletes : Prop :=
  ∀ (f : Fields) (s : State) (wait : ReadyWait) (e' : Env),
    s.ready → s.status.configured = true → s.xferMode = .single → wait.holds s.params s.latchRole s.env e' →
      exec (.waitReady f) s = .next
        { s.ended (requestWord 0x3#4 f) (Result.success 0x3#4) wait.events with
          rxbuf := s.rxbuf.write 0x80 wait.ready
          retry := wait.retryLeft
          env := e' }

/-- WAIT_READY whose 10000 reads all read BUSY set ends with ReadinessTimeout after 9999 waits, with RETRY 0 and the last answer
recorded (R151, R152, R158). -/
def Obligations.WaitReadyTimesOut : Prop :=
  ∀ (f : Fields) (s : State) (bs : List Byte) (b : Byte) (e' : Env),
    s.ready → s.status.configured = true → s.xferMode = .single → bs.length = 9999 →
    (∀ x ∈ bs ++ [b], busy x = true) → Env.reads s.params s.latchRole rdsr1Frame (bs ++ [b]) s.env e' →
      exec (.waitReady f) s = .next
        { s.ended (requestWord 0x3#4 f) (Result.answered 0x3#4 0x2#4 b) (busyPolls bs ++ [readEvent 0x05#8 b]) with
          rxbuf := s.rxbuf.write 0x80 b
          retry := 0#14
          env := e' }

/-- WAIT_READY whose k-th read fails ends at once with TransportError, with RETRY at 10000 - (k - 1) (R151, R154). -/
def Obligations.WaitReadyStopsAtTransportError : Prop :=
  ∀ (f : Fields) (s : State) (bs : List Byte) (st : Word) (e e' : Env),
    s.ready → s.status.configured = true → s.xferMode = .single → bs.length < 10000 →
    (∀ x ∈ bs, busy x = true) → Env.reads s.params s.latchRole rdsr1Frame bs s.env e →
    Env.fails s.params s.latchRole rdsr1Frame st e e' →
      exec (.waitReady f) s = .next
        { s.ended (requestWord 0x3#4 f) (Result.transport 0x3#4 0x05#8)
            (busyPolls bs ++ [.frame 0x05#8 none [] 1 st []]) with
          rxbuf := lastAnswer s.rxbuf bs
          retry := 10000#14 - BitVec.ofNat 14 bs.length
          errStatus := st
          env := e' }

/-! ### ENABLE_WRITE -/

/-- ENABLE_WRITE whose waits succeed and whose verification read shows the latch (or, with WEL_CHECK off, anything) returns OK
with R171's events: wait, WREN, wait, read (R165, R166, R169, R171, R172). -/
def Obligations.EnableWriteCompletes : Prop :=
  ∀ (f : Fields) (s : State) (h : Handshake) (e' : Env),
    s.ready → s.status.configured = true → s.xferMode = .single → h.holds s.params s.latchRole s.env e' →
    h.latched s.params →
      exec (.enableWrite f) s = .next
        { s.ended (requestWord 0x4#4 f) (Result.success 0x4#4) h.events with
          status := { s.status with active := false, ovr := false, snapValid := false }
          rxbuf := s.rxbuf.write 0x80 h.latch
          retry := h.second.retryLeft
          env := e' }

/-- With WEL_CHECK on, a verification read that shows the latch clear ends ENABLE_WRITE with WriteEnableNotLatched and that
answer (R165, R166, R169, R170). -/
def Obligations.EnableWriteWithClearLatch : Prop :=
  ∀ (f : Fields) (s : State) (h : Handshake) (e' : Env),
    s.ready → s.status.configured = true → s.xferMode = .single → h.holds s.params s.latchRole s.env e' →
    s.params.welCheck = true → welSet s.params.srLayout h.latch = false →
      exec (.enableWrite f) s = .next
        { s.ended (requestWord 0x4#4 f) (Result.answered 0x4#4 0x4#4 h.latch) h.events with
          status := { s.status with active := false, ovr := false, snapValid := false }
          rxbuf := s.rxbuf.write 0x80 h.latch
          retry := h.second.retryLeft
          env := e' }

/-- No sequencer sends WREN unless the event just before it is a successful status read that shows BUSY clear: the
zero-interaction invariant, for every environment (R167, R306). -/
def Obligations.WrenOnlyAfterReadyRead : Prop :=
  ∀ (i : Instr) (s t : State) (before after : List Event) (e : Event),
    i.handshakes = true → s.ready → exec i s = .next t → newEvents s t = before ++ e :: after →
    e.isFrameOf 0x06#8 = true → ∃ (early : List Event) (r : Event), before = early ++ [r] ∧ r.readyRead = true

/-! ### READ_DECODE -/

/-- READ_DECODE whose three reads succeed stores the three bytes together and sets SNAP_VALID (R185, R186, R187, R189). -/
def Obligations.ReadDecodeCompletes : Prop :=
  ∀ (f : Fields) (s : State) (b : Triple) (e' : Env),
    s.ready → s.status.configured = true → s.xferMode = .single → b.holds s.params s.latchRole s.env e' →
      exec (.readDecode f) s = .next
        { s.ended (requestWord 0x5#4 f) (Result.success 0x5#4) b.events with
          status := { s.status with active := false, ovr := false, snapValid := true }
          snap := ⟨b.b1, b.b2, b.b3, true⟩
          rxbuf := s.rxbuf.write 0x80 b.b3
          env := e' }

/-- READ_DECODE whose first, second or third read fails sends no further read, clears SNAP_VALID and leaves SNAP's bytes as
they are (R185, R188). -/
def Obligations.ReadDecodeWithFailedRead : Prop :=
  ∀ (f : Fields) (s : State) (st : Word) (e e₁ e₂ : Env),
    s.ready → s.status.configured = true → s.xferMode = .single →
    (Env.fails s.params s.latchRole rdsr1Frame st s.env e →
      exec (.readDecode f) s = .next
        { s.ended (requestWord 0x5#4 f) (Result.transport 0x5#4 0x05#8) [.frame 0x05#8 none [] 1 st []] with
          status := { s.status with active := false, ovr := false, snapValid := false }
          errStatus := st
          env := e }) ∧
      (∀ b1 : Byte, Env.reads s.params s.latchRole rdsr1Frame [b1] s.env e →
        Env.fails s.params s.latchRole rdsr2Frame st e e₁ →
          exec (.readDecode f) s = .next
            { s.ended (requestWord 0x5#4 f) (Result.transport 0x5#4 0x35#8)
                [readEvent 0x05#8 b1, .frame 0x35#8 none [] 1 st []] with
              status := { s.status with active := false, ovr := false, snapValid := false }
              errStatus := st
              rxbuf := s.rxbuf.write 0x80 b1
              env := e₁ }) ∧
      ∀ b1 b2 : Byte, Env.reads s.params s.latchRole rdsr1Frame [b1] s.env e →
        Env.reads s.params s.latchRole rdsr2Frame [b2] e e₁ → Env.fails s.params s.latchRole rdsr3Frame st e₁ e₂ →
          exec (.readDecode f) s = .next
            { s.ended (requestWord 0x5#4 f) (Result.transport 0x5#4 0x15#8)
                [readEvent 0x05#8 b1, readEvent 0x35#8 b2, .frame 0x15#8 none [] 1 st []] with
              status := { s.status with active := false, ovr := false, snapValid := false }
              errStatus := st
              rxbuf := s.rxbuf.write 0x80 b2
              env := e₂ }

/-! ### RELEASE_LATCH and RESET_PROTECTION -/

/-- The first RELEASE_LATCH of a configured bus calls the pin controller once and makes the latch line a passive input (R200,
R201, R207). -/
def Obligations.ReleaseLatchCompletes : Prop :=
  ∀ (f : Fields) (s : State), s.ready → s.status.configured = true → s.status.latchReleased = false →
    exec (.releaseLatch f) s = .next
      { s.ended (requestWord 0x6#4 f) (Result.success 0x6#4) [.pin s.params.latchLine.line .passiveIn] with
        status := { s.status with active := false, ovr := false, latchReleased := true }
        lineRole := s.lineRole.set .passiveIn s.params.latchLine.line
        pinCalls := s.pinCalls ++ [(s.params.lineIds.data s.params.latchLine.line, .passiveIn)] }

/-- RESET_PROTECTION whose waits, handshake and frames succeed sends R221's frames, one WRSR1 of 0x00 among them (R215, R216,
R221, R222). -/
def Obligations.ResetProtectionCompletes : Prop :=
  ∀ (f : Fields) (s : State) (c : Clearing) (e' : Env),
    s.ready → s.status.configured = true → s.xferMode = .single → c.holds s.params s.latchRole s.env e' →
    c.enable.latched s.params →
      exec (.resetProtection f) s = .next
        { s.ended (requestWord 0x7#4 f) (Result.success 0x7#4) c.events with
          status := { s.status with active := false, ovr := false, snapValid := false }
          rxbuf := s.rxbuf.write 0x80 c.last.ready
          retry := c.last.retryLeft
          env := e' }

/-- In every environment a sequencer's WRSR1 carries the payload 0x00 and no address, comes after a WREN of the same request
with only status reads and waits between, directly after a verification read that shows the latch when WEL_CHECK is on, and
is the request's only one (R215, R216, R217, R306). -/
def Obligations.WriteOnlyAfterVerifiedWren : Prop :=
  ∀ (i : Instr) (s t : State) (before after : List Event) (e : Event),
    i.clears = true → s.ready → exec i s = .next t → newEvents s t = before ++ e :: after →
    e.isFrameOf 0x01#8 = true →
      (∃ st : Word, e = .frame 0x01#8 none [0x00#8] 0 st []) ∧
        (∃ (early between : List Event) (b : Byte), before = early ++ [wrenEvent] ++ between ++ [readEvent 0x05#8 b] ∧
          (∀ x ∈ between, x.readsOrWaits = true) ∧ (s.params.welCheck = true → welSet s.params.srLayout b = true)) ∧
        (∀ x ∈ before ++ after, x.isFrameOf 0x01#8 = false)

/-! ### RUN_RECOVERY and the results -/

/-- RUN_RECOVERY from the fresh state, with a legal format, waits and handshakes that succeed, latches that show and a last
snapshot that shows no protection (or VERIFY_CHECK off), runs R239's trace and reaches Verified (R232, R233, R239). -/
def Obligations.RunRecoveryReachesVerified : Prop :=
  ∀ (f : Fields) (s : State) (r : Recovery) (freq : Word) (e e' : Env),
    s.ready → s.status.orch = 0#3 → s.status.configured = false → s.status.latchReleased = false →
    readOperand s.freq s.env = (freq, e) → s.params.legalAw.admits (f.arg.setWidth 32) = true →
    s.params.legalFreq.contains freq = true → r.holds s.params s.latchRole e e' → r.enable.latched s.params →
    r.clearing.enable.latched s.params →
    (s.params.verifyCheck = true → stillProtected s.params.srLayout r.snapshot.b1 = false) →
      exec (.runRecovery f) s = .next
        { s.ended (requestWord 0x8#4 f) (Result.success 0x8#4)
            ([.cfg (f.arg.setWidth 32) freq true] ++ r.events s.params) with
          status := ⟨false, true, true, true, false, 4#3, 5#3⟩
          cfg := ⟨f.arg, freq⟩
          xferMode := .single
          lineRole := s.lineRole.set .passiveIn s.params.latchLine.line
          pinCalls := s.pinCalls ++ [(s.params.lineIds.data s.params.latchLine.line, .passiveIn)]
          retry := r.clearing.last.retryLeft
          snap := ⟨r.snapshot.b1, r.snapshot.b2, r.snapshot.b3, true⟩
          rxbuf := s.rxbuf.write 0x80 r.snapshot.b3
          env := e' }

/-- The same run whose last snapshot still shows protection, with VERIFY_CHECK on, ends with ProtectionStillSet and Aborted at
stage 4 (R232, R234, R238). -/
def Obligations.RunRecoveryFindsProtectionStillSet : Prop :=
  ∀ (f : Fields) (s : State) (r : Recovery) (freq : Word) (e e' : Env),
    s.ready → s.status.orch = 0#3 → s.status.configured = false → s.status.latchReleased = false →
    readOperand s.freq s.env = (freq, e) → s.params.legalAw.admits (f.arg.setWidth 32) = true →
    s.params.legalFreq.contains freq = true → r.holds s.params s.latchRole e e' → r.enable.latched s.params →
    r.clearing.enable.latched s.params → s.params.verifyCheck = true →
    stillProtected s.params.srLayout r.snapshot.b1 = true →
      exec (.runRecovery f) s = .next
        { s.ended (requestWord 0x8#4 f) (Result.answered 0x8#4 0x6#4 r.snapshot.b1)
            ([.cfg (f.arg.setWidth 32) freq true] ++ r.events s.params) with
          status := ⟨false, true, true, true, false, 4#3, 7#3⟩
          cfg := ⟨f.arg, freq⟩
          xferMode := .single
          lineRole := s.lineRole.set .passiveIn s.params.latchLine.line
          pinCalls := s.pinCalls ++ [(s.params.lineIds.data s.params.latchLine.line, .passiveIn)]
          retry := r.clearing.last.retryLeft
          snap := ⟨r.snapshot.b1, r.snapshot.b2, r.snapshot.b3, true⟩
          rxbuf := s.rxbuf.write 0x80 r.snapshot.b3
          env := e' }

/-- RUN_RECOVERY from any but the fresh state is refused, with ORCH and STAGE as they were (R231). -/
def Obligations.RunRecoveryNeedsFreshState : Prop :=
  ∀ (f : Fields) (s : State), s.ready → s.status.orch ≠ 0#3 ∨ s.status.configured = true →
    exec (.runRecovery f) s = .next (s.rejected (requestWord 0x8#4 f))

/-- Scenario C: RUN_RECOVERY with an illegal format aborts at once, with no frame (R234, R243). -/
def Obligations.RunRecoveryWithIllegalFormatAborts : Prop :=
  ∀ (f : Fields) (s : State) (freq cst : Word) (e e' : Env),
    s.ready → s.status.orch = 0#3 → s.status.configured = false → readOperand s.freq s.env = (freq, e) →
    transportConfigure s.params (f.arg.setWidth 32) freq e = (cst, e') →
    s.params.legalAw.admits (f.arg.setWidth 32) = false ∨ s.params.legalFreq.contains freq = false →
      cst ≠ 0#32 ∧
        exec (.runRecovery f) s = .next
          { s.ended (requestWord 0x8#4 f) (Result.misconfigured 0x8#4) [.cfg (f.arg.setWidth 32) freq false] with
            status := { s.status with active := false, ovr := false, orch := 7#3 }
            errStatus := cst
            env := e' }

/-- Scenario B: RUN_RECOVERY on a flash that stays busy aborts at stage 1 after 10000 reads and 9999 waits, with no WREN, no
WRSR1 and no pin call (R234, R242). -/
def Obligations.RunRecoveryOnBusyFlashAborts : Prop :=
  ∀ (f : Fields) (s : State) (bs : List Byte) (b : Byte) (freq : Word) (e e' : Env),
    s.ready → s.status.orch = 0#3 → s.status.configured = false → readOperand s.freq s.env = (freq, e) →
    s.params.legalAw.admits (f.arg.setWidth 32) = true → s.params.legalFreq.contains freq = true → bs.length = 9999 →
    (∀ x ∈ bs ++ [b], busy x = true) → Env.reads s.params s.latchRole rdsr1Frame (bs ++ [b]) e e' →
      exec (.runRecovery f) s = .next
        { s.ended (requestWord 0x8#4 f) (Result.answered 0x8#4 0x2#4 b)
            ([.cfg (f.arg.setWidth 32) freq true] ++ busyPolls bs ++ [readEvent 0x05#8 b]) with
          status := { s.status with active := false, ovr := false, configured := true, orch := 7#3, stage := 1#3 }
          cfg := ⟨f.arg, freq⟩
          xferMode := .single
          retry := 0#14
          rxbuf := s.rxbuf.write 0x80 b
          env := e' }

/-- RUN_RECOVERY from the fresh state ends only with the pairs of code and stage of R235's table, Verified for OK and Aborted
for every other (R234, R235, R236). -/
def Obligations.RunRecoveryEndings : Prop :=
  ∀ (f : Fields) (s t : State), s.Inv → s.ready → s.status.orch = 0#3 → s.status.configured = false →
    exec (.runRecovery f) s = .next t →
      (t.status.orch, t.result.code, t.status.stage) ∈
        [(7#3, 0x3#4, 0#3), (7#3, 0x2#4, 1#3), (7#3, 0x1#4, 1#3), (7#3, 0x2#4, 2#3), (7#3, 0x1#4, 2#3),
          (7#3, 0x4#4, 2#3), (7#3, 0x2#4, 3#3), (7#3, 0x1#4, 3#3), (7#3, 0x4#4, 3#3), (7#3, 0x1#4, 4#3),
          (7#3, 0x6#4, 4#3), (5#3, 0x0#4, 4#3)]

/-- Each operation ends only with the codes of its row of R262's table, code 4 only with WEL_CHECK on and code 6 only with
VERIFY_CHECK on (R261, R262). -/
def Obligations.ResultCodesOfEachOperation : Prop :=
  ∀ (i : Instr) (w : Word) (s t : State), encode i = .request w → s.ready → exec i s = .next t →
    t.result.code ∈ i.codes ∧ (t.result.code = 0x4#4 → s.params.welCheck = true) ∧
      (t.result.code = 0x6#4 → s.params.verifyCheck = true)

/-! ### Sequences that stop midway -/

/-- A readiness wait that times out ends ENABLE_WRITE, RESET_PROTECTION and RUN_RECOVERY at whichever of their waits it is: with
ReadinessTimeout and the last answer, after the parts that were done and its own 10000 reads, and with nothing rolled back; the
orchestrator aborts at the stage it had reached (R165, R167, R170, R215, R220, R223, R234, R235, R264). RUN_RECOVERY's first wait,
before its write sequences, is `RunRecoveryOnBusyFlashAborts`. -/
def Obligations.SequencesStopAtTimeout : Prop :=
  (∀ (f : Fields) (s : State) (op : BitVec 4) (i : Instr) (kinds rest : List PartKind) (done : List Part)
      (bs : List Byte) (b : Byte) (e e' : Env),
    (op, i, kinds) ∈
      [(0x4#4, .enableWrite f, enableWriteParts), (0x7#4, .resetProtection f, resetProtectionParts)] →
    s.ready → s.status.configured = true → s.xferMode = .single → done.map Part.kind ++ .wait :: rest = kinds →
    partsHold s.params s.latchRole done s.env e → bs.length = 9999 → (∀ x ∈ bs ++ [b], busy x = true) →
    Env.reads s.params s.latchRole rdsr1Frame (bs ++ [b]) e e' →
      exec i s = .next
        { s.ended (requestWord op f) (Result.answered op 0x2#4 b)
            (partsEvents done ++ busyPolls bs ++ [readEvent 0x05#8 b]) with
          status :=
            { s.status with active := false, ovr := false, snapValid := s.status.snapValid && !done.any Part.stales }
          rxbuf := s.rxbuf.write 0x80 b
          retry := 0#14
          env := e' }) ∧
    ∀ (f : Fields) (s : State) (freq : Word) (wait : ReadyWait) (rest : List PartKind) (done : List Part)
        (bs : List Byte) (b : Byte) (e e₁ e₂ e' : Env),
      s.ready → s.status.orch = 0#3 → s.status.configured = false → s.status.latchReleased = false →
      readOperand s.freq s.env = (freq, e) → s.params.legalAw.admits (f.arg.setWidth 32) = true →
      s.params.legalFreq.contains freq = true → wait.holds s.params s.latchRole e e₁ →
      done.map Part.kind ++ .wait :: rest = enableWriteParts ++ resetProtectionParts →
      partsHold s.params .passiveIn done e₁ e₂ → bs.length = 9999 → (∀ x ∈ bs ++ [b], busy x = true) →
      Env.reads s.params .passiveIn rdsr1Frame (bs ++ [b]) e₂ e' →
        exec (.runRecovery f) s = .next
          { s.ended (requestWord 0x8#4 f) (Result.answered 0x8#4 0x2#4 b)
              ([.cfg (f.arg.setWidth 32) freq true] ++ wait.events ++ [.pin s.params.latchLine.line .passiveIn] ++
                partsEvents done ++ busyPolls bs ++ [readEvent 0x05#8 b]) with
            status :=
              ⟨false, true, true, s.status.snapValid && !done.any Part.stales, false, stageAfterParts done.length, 7#3⟩
            cfg := ⟨f.arg, freq⟩
            xferMode := .single
            lineRole := s.lineRole.set .passiveIn s.params.latchLine.line
            pinCalls := s.pinCalls ++ [(s.params.lineIds.data s.params.latchLine.line, .passiveIn)]
            rxbuf := s.rxbuf.write 0x80 b
            retry := 0#14
            env := e' }

/-- With WEL_CHECK on, a verification read that shows the latch clear ends the RESET_PROTECTION or RUN_RECOVERY that called
ENABLE_WRITE too: with WriteEnableNotLatched and that answer, after the parts that were done, and with no WRSR1 after it (R12, R169,
R217, R220, R234, R235, R264). ENABLE_WRITE itself is `EnableWriteWithClearLatch`. -/
def Obligations.SequencesStopAtClearLatch : Prop :=
  (∀ (f : Fields) (s : State) (rest : List PartKind) (done : List Part) (b : Byte) (e e' : Env),
    s.ready → s.status.configured = true → s.xferMode = .single →
    done.map Part.kind ++ .latch :: rest = resetProtectionParts → partsHold s.params s.latchRole done s.env e →
    Env.reads s.params s.latchRole rdsr1Frame [b] e e' → s.params.welCheck = true →
    welSet s.params.srLayout b = false →
      exec (.resetProtection f) s = .next
        { s.ended (requestWord 0x7#4 f) (Result.answered 0x7#4 0x4#4 b) (partsEvents done ++ [readEvent 0x05#8 b]) with
          status := { s.status with active := false, ovr := false, snapValid := false }
          rxbuf := s.rxbuf.write 0x80 b
          retry := partsRetry s.retry done
          env := e' }) ∧
    ∀ (f : Fields) (s : State) (freq : Word) (wait : ReadyWait) (rest : List PartKind) (done : List Part) (b : Byte)
        (e e₁ e₂ e' : Env),
      s.ready → s.status.orch = 0#3 → s.status.configured = false → s.status.latchReleased = false →
      readOperand s.freq s.env = (freq, e) → s.params.legalAw.admits (f.arg.setWidth 32) = true →
      s.params.legalFreq.contains freq = true → wait.holds s.params s.latchRole e e₁ →
      done.map Part.kind ++ .latch :: rest = enableWriteParts ++ resetProtectionParts →
      partsHold s.params .passiveIn done e₁ e₂ → Env.reads s.params .passiveIn rdsr1Frame [b] e₂ e' →
      s.params.welCheck = true → welSet s.params.srLayout b = false →
        exec (.runRecovery f) s = .next
          { s.ended (requestWord 0x8#4 f) (Result.answered 0x8#4 0x4#4 b)
              ([.cfg (f.arg.setWidth 32) freq true] ++ wait.events ++ [.pin s.params.latchLine.line .passiveIn] ++
                partsEvents done ++ [readEvent 0x05#8 b]) with
            status := ⟨false, true, true, false, false, stageAfterParts done.length, 7#3⟩
            cfg := ⟨f.arg, freq⟩
            xferMode := .single
            lineRole := s.lineRole.set .passiveIn s.params.latchLine.line
            pinCalls := s.pinCalls ++ [(s.params.lineIds.data s.params.latchLine.line, .passiveIn)]
            rxbuf := s.rxbuf.write 0x80 b
            retry := partsRetry wait.retryLeft done
            env := e' }
end

