-- ==== Sys2Proof/Laws/Memory.lean ====
section
/-! SUPPORT. The laws of the payload memories: a byte written reads back, every other byte reads as before, and every write keeps
the canonical form. -/

namespace Sys2Proof.Machine

@[simp] theorem Memory.read_nil (i : Nat) : Memory.read [] i = none := rfl

theorem Memory.read_write_same (m : Memory) (i : Nat) (v : Byte) : (m.write i v).read i = some v := by
  induction m with
  | nil => simp [Memory.write, Memory.read]
  | cons c m ih =>
    obtain ⟨a, b⟩ := c
    unfold Memory.write
    split
    · simp [Memory.read]
    · split
      · simp [Memory.read]
      · rename_i h₁ h₂
        simp [Memory.read, h₂, ih]

theorem Memory.read_write_other (m : Memory) (i j : Nat) (v : Byte) (h : j ≠ i) : (m.write i v).read j = m.read j := by
  induction m with
  | nil => simp [Memory.write, Memory.read, h, Memory.unlisted]
  | cons c m ih =>
    obtain ⟨a, b⟩ := c
    unfold Memory.write
    split
    · simp [Memory.read, h]
    · split
      · rename_i h₁ h₂
        subst h₂
        simp [Memory.read, h]
      · simp [Memory.read, ih]

/-- A second write to the same index replaces the first. -/
theorem Memory.write_write (m : Memory) (i : Nat) (u v : Byte) : (m.write i u).write i v = m.write i v := by
  induction m with
  | nil => simp [Memory.write]
  | cons c m ih =>
    obtain ⟨a, b⟩ := c
    by_cases h₁ : i < a
    · simp [Memory.write, h₁]
    · by_cases h₂ : i = a
      · subst h₂
        simp [Memory.write]
      · simp [Memory.write, h₁, h₂, ih]

/-- The bytes before a run of writes and after it read as before. -/
theorem Memory.read_writeBytes_outside (m : Memory) (i j : Nat) (vs : List Byte) (h : j < i ∨ i + vs.length ≤ j) :
    (m.writeBytes i vs).read j = m.read j := by
  induction vs generalizing m i with
  | nil => rfl
  | cons v vs ih =>
    simp only [List.length_cons] at h
    simp only [Memory.writeBytes]
    rw [ih (m.write i v) (i + 1) (by omega), Memory.read_write_other m i j v (by omega)]

theorem Memory.above_of_le {a b : Nat} (m : Memory) (hab : a ≤ b) (h : m.above b = true) : m.above a = true := by
  cases m with
  | nil => rfl
  | cons c m =>
    obtain ⟨k, v⟩ := c
    simp only [Memory.above, Bool.and_eq_true, decide_eq_true_eq] at h ⊢
    exact ⟨by omega, h.2⟩

theorem Memory.above_write (m : Memory) (a i : Nat) (v : Byte) (ha : a < i) (h : m.above a = true) :
    (m.write i v).above a = true := by
  induction m generalizing a with
  | nil => simp [Memory.write, Memory.above, ha]
  | cons c m ih =>
    obtain ⟨k, b⟩ := c
    simp only [Memory.above, Bool.and_eq_true, decide_eq_true_eq] at h
    unfold Memory.write
    split
    · simp_all [Memory.above]
    · split
      · simp_all [Memory.above]
      · simp only [Memory.above, Bool.and_eq_true, decide_eq_true_eq]
        exact ⟨h.1, ih k (by omega) h.2⟩

/-- A write keeps the canonical form. -/
theorem Memory.wf_write (m : Memory) (i : Nat) (v : Byte) (h : m.wf = true) : (m.write i v).wf = true := by
  cases m with
  | nil => rfl
  | cons c m =>
    obtain ⟨k, b⟩ := c
    unfold Memory.write
    split
    · rename_i h₁
      simp only [Memory.wf, Memory.above, Bool.and_eq_true, decide_eq_true_eq] at h ⊢
      exact ⟨h₁, h⟩
    · split
      · rename_i h₁ h₂
        subst h₂
        exact h
      · rename_i h₁ h₂
        exact Memory.above_write m k i v (by omega) h

/-- A run of writes keeps the canonical form. -/
theorem Memory.wf_writeBytes (m : Memory) (i : Nat) (vs : List Byte) (h : m.wf = true) : (m.writeBytes i vs).wf = true := by
  induction vs generalizing m i with
  | nil => exact h
  | cons v vs ih => exact ih (m.write i v) (i + 1) (Memory.wf_write m i v h)

end Sys2Proof.Machine
end

