-- ==== Sys2Proof/Laws/State.lean ====
section
/-! SUPPORT. What each named update of the state does to each field: one lemma per field, true by definition, in the simp set, so
that no later proof unfolds a record update. -/

namespace Sys2Proof.Machine

/-! ### `emit` -/

@[simp] theorem emit_status (s : State) (e : Event) : (s.emit e).status = s.status := rfl
@[simp] theorem emit_result (s : State) (e : Event) : (s.emit e).result = s.result := rfl
@[simp] theorem emit_errStatus (s : State) (e : Event) : (s.emit e).errStatus = s.errStatus := rfl
@[simp] theorem emit_addr (s : State) (e : Event) : (s.emit e).addr = s.addr := rfl
@[simp] theorem emit_freq (s : State) (e : Event) : (s.emit e).freq = s.freq := rfl
@[simp] theorem emit_snap (s : State) (e : Event) : (s.emit e).snap = s.snap := rfl
@[simp] theorem emit_cfg (s : State) (e : Event) : (s.emit e).cfg = s.cfg := rfl
@[simp] theorem emit_retry (s : State) (e : Event) : (s.emit e).retry = s.retry := rfl
@[simp] theorem emit_lineRole (s : State) (e : Event) : (s.emit e).lineRole = s.lineRole := rfl
@[simp] theorem emit_txbuf (s : State) (e : Event) : (s.emit e).txbuf = s.txbuf := rfl
@[simp] theorem emit_rxbuf (s : State) (e : Event) : (s.emit e).rxbuf = s.rxbuf := rfl
@[simp] theorem emit_ptr (s : State) (e : Event) : (s.emit e).ptr = s.ptr := rfl
@[simp] theorem emit_lat (s : State) (e : Event) : (s.emit e).lat = s.lat := rfl
@[simp] theorem emit_locals (s : State) (e : Event) : (s.emit e).locals = s.locals := rfl
@[simp] theorem emit_trace (s : State) (e : Event) : (s.emit e).trace = s.trace ++ [e] := rfl
@[simp] theorem emit_xferMode (s : State) (e : Event) : (s.emit e).xferMode = s.xferMode := rfl
@[simp] theorem emit_params (s : State) (e : Event) : (s.emit e).params = s.params := rfl
@[simp] theorem emit_env (s : State) (e : Event) : (s.emit e).env = s.env := rfl
@[simp] theorem emit_port (s : State) (e : Event) : (s.emit e).port = s.port := rfl
@[simp] theorem emit_readLog (s : State) (e : Event) : (s.emit e).readLog = s.readLog := rfl
@[simp] theorem emit_pinCalls (s : State) (e : Event) : (s.emit e).pinCalls = s.pinCalls := rfl

/-! ### `advance` -/

@[simp] theorem advance_status (s : State) : s.advance.status = s.status := rfl
@[simp] theorem advance_result (s : State) : s.advance.result = s.result := rfl
@[simp] theorem advance_errStatus (s : State) : s.advance.errStatus = s.errStatus := rfl
@[simp] theorem advance_addr (s : State) : s.advance.addr = s.addr := rfl
@[simp] theorem advance_freq (s : State) : s.advance.freq = s.freq := rfl
@[simp] theorem advance_snap (s : State) : s.advance.snap = s.snap := rfl
@[simp] theorem advance_cfg (s : State) : s.advance.cfg = s.cfg := rfl
@[simp] theorem advance_retry (s : State) : s.advance.retry = s.retry := rfl
@[simp] theorem advance_lineRole (s : State) : s.advance.lineRole = s.lineRole := rfl
@[simp] theorem advance_txbuf (s : State) : s.advance.txbuf = s.txbuf := rfl
@[simp] theorem advance_rxbuf (s : State) : s.advance.rxbuf = s.rxbuf := rfl
@[simp] theorem advance_ptr (s : State) : s.advance.ptr = nextLines s.ptr := rfl
@[simp] theorem advance_lat (s : State) : s.advance.lat = s.lat := rfl
@[simp] theorem advance_locals (s : State) : s.advance.locals = s.locals := rfl
@[simp] theorem advance_trace (s : State) : s.advance.trace = s.trace := rfl
@[simp] theorem advance_xferMode (s : State) : s.advance.xferMode = s.xferMode := rfl
@[simp] theorem advance_params (s : State) : s.advance.params = s.params := rfl
@[simp] theorem advance_env (s : State) : s.advance.env = s.env := rfl
@[simp] theorem advance_port (s : State) : s.advance.port = s.port := rfl
@[simp] theorem advance_readLog (s : State) : s.advance.readLog = s.readLog := rfl
@[simp] theorem advance_pinCalls (s : State) : s.advance.pinCalls = s.pinCalls := rfl

/-! ### `leaveLoop` -/

@[simp] theorem leaveLoop_status (s : State) : s.leaveLoop.status = s.status := rfl
@[simp] theorem leaveLoop_result (s : State) : s.leaveLoop.result = s.result := rfl
@[simp] theorem leaveLoop_errStatus (s : State) : s.leaveLoop.errStatus = s.errStatus := rfl
@[simp] theorem leaveLoop_addr (s : State) : s.leaveLoop.addr = s.addr := rfl
@[simp] theorem leaveLoop_freq (s : State) : s.leaveLoop.freq = s.freq := rfl
@[simp] theorem leaveLoop_snap (s : State) : s.leaveLoop.snap = s.snap := rfl
@[simp] theorem leaveLoop_cfg (s : State) : s.leaveLoop.cfg = s.cfg := rfl
@[simp] theorem leaveLoop_retry (s : State) : s.leaveLoop.retry = s.retry := rfl
@[simp] theorem leaveLoop_lineRole (s : State) : s.leaveLoop.lineRole = s.lineRole := rfl
@[simp] theorem leaveLoop_txbuf (s : State) : s.leaveLoop.txbuf = s.txbuf := rfl
@[simp] theorem leaveLoop_rxbuf (s : State) : s.leaveLoop.rxbuf = s.rxbuf := rfl
@[simp] theorem leaveLoop_ptr (s : State) : s.leaveLoop.ptr = s.ptr.tail := rfl
@[simp] theorem leaveLoop_lat (s : State) : s.leaveLoop.lat = s.lat := rfl
@[simp] theorem leaveLoop_locals (s : State) : s.leaveLoop.locals = s.locals := rfl
@[simp] theorem leaveLoop_trace (s : State) : s.leaveLoop.trace = s.trace := rfl
@[simp] theorem leaveLoop_xferMode (s : State) : s.leaveLoop.xferMode = s.xferMode := rfl
@[simp] theorem leaveLoop_params (s : State) : s.leaveLoop.params = s.params := rfl
@[simp] theorem leaveLoop_env (s : State) : s.leaveLoop.env = s.env := rfl
@[simp] theorem leaveLoop_port (s : State) : s.leaveLoop.port = s.port := rfl
@[simp] theorem leaveLoop_readLog (s : State) : s.leaveLoop.readLog = s.readLog := rfl
@[simp] theorem leaveLoop_pinCalls (s : State) : s.leaveLoop.pinCalls = s.pinCalls := rfl

/-! ### `setOrch` -/

@[simp] theorem setOrch_status (s : State) (o : Orch) : (s.setOrch o).status = s.status.setOrch o := rfl
@[simp] theorem setOrch_result (s : State) (o : Orch) : (s.setOrch o).result = s.result := rfl
@[simp] theorem setOrch_errStatus (s : State) (o : Orch) : (s.setOrch o).errStatus = s.errStatus := rfl
@[simp] theorem setOrch_addr (s : State) (o : Orch) : (s.setOrch o).addr = s.addr := rfl
@[simp] theorem setOrch_freq (s : State) (o : Orch) : (s.setOrch o).freq = s.freq := rfl
@[simp] theorem setOrch_snap (s : State) (o : Orch) : (s.setOrch o).snap = s.snap := rfl
@[simp] theorem setOrch_cfg (s : State) (o : Orch) : (s.setOrch o).cfg = s.cfg := rfl
@[simp] theorem setOrch_retry (s : State) (o : Orch) : (s.setOrch o).retry = s.retry := rfl
@[simp] theorem setOrch_lineRole (s : State) (o : Orch) : (s.setOrch o).lineRole = s.lineRole := rfl
@[simp] theorem setOrch_txbuf (s : State) (o : Orch) : (s.setOrch o).txbuf = s.txbuf := rfl
@[simp] theorem setOrch_rxbuf (s : State) (o : Orch) : (s.setOrch o).rxbuf = s.rxbuf := rfl
@[simp] theorem setOrch_ptr (s : State) (o : Orch) : (s.setOrch o).ptr = s.ptr := rfl
@[simp] theorem setOrch_lat (s : State) (o : Orch) : (s.setOrch o).lat = s.lat := rfl
@[simp] theorem setOrch_locals (s : State) (o : Orch) : (s.setOrch o).locals = s.locals := rfl
@[simp] theorem setOrch_trace (s : State) (o : Orch) : (s.setOrch o).trace = s.trace := rfl
@[simp] theorem setOrch_xferMode (s : State) (o : Orch) : (s.setOrch o).xferMode = s.xferMode := rfl
@[simp] theorem setOrch_params (s : State) (o : Orch) : (s.setOrch o).params = s.params := rfl
@[simp] theorem setOrch_env (s : State) (o : Orch) : (s.setOrch o).env = s.env := rfl
@[simp] theorem setOrch_port (s : State) (o : Orch) : (s.setOrch o).port = s.port := rfl
@[simp] theorem setOrch_readLog (s : State) (o : Orch) : (s.setOrch o).readLog = s.readLog := rfl
@[simp] theorem setOrch_pinCalls (s : State) (o : Orch) : (s.setOrch o).pinCalls = s.pinCalls := rfl

/-! ### `logRead` -/

@[simp] theorem logRead_status (s : State) (v : Word) : (s.logRead v).status = s.status := rfl
@[simp] theorem logRead_result (s : State) (v : Word) : (s.logRead v).result = s.result := rfl
@[simp] theorem logRead_errStatus (s : State) (v : Word) : (s.logRead v).errStatus = s.errStatus := rfl
@[simp] theorem logRead_addr (s : State) (v : Word) : (s.logRead v).addr = s.addr := rfl
@[simp] theorem logRead_freq (s : State) (v : Word) : (s.logRead v).freq = s.freq := rfl
@[simp] theorem logRead_snap (s : State) (v : Word) : (s.logRead v).snap = s.snap := rfl
@[simp] theorem logRead_cfg (s : State) (v : Word) : (s.logRead v).cfg = s.cfg := rfl
@[simp] theorem logRead_retry (s : State) (v : Word) : (s.logRead v).retry = s.retry := rfl
@[simp] theorem logRead_lineRole (s : State) (v : Word) : (s.logRead v).lineRole = s.lineRole := rfl
@[simp] theorem logRead_txbuf (s : State) (v : Word) : (s.logRead v).txbuf = s.txbuf := rfl
@[simp] theorem logRead_rxbuf (s : State) (v : Word) : (s.logRead v).rxbuf = s.rxbuf := rfl
@[simp] theorem logRead_ptr (s : State) (v : Word) : (s.logRead v).ptr = s.ptr := rfl
@[simp] theorem logRead_lat (s : State) (v : Word) : (s.logRead v).lat = s.lat := rfl
@[simp] theorem logRead_locals (s : State) (v : Word) : (s.logRead v).locals = s.locals := rfl
@[simp] theorem logRead_trace (s : State) (v : Word) : (s.logRead v).trace = s.trace := rfl
@[simp] theorem logRead_xferMode (s : State) (v : Word) : (s.logRead v).xferMode = s.xferMode := rfl
@[simp] theorem logRead_params (s : State) (v : Word) : (s.logRead v).params = s.params := rfl
@[simp] theorem logRead_env (s : State) (v : Word) : (s.logRead v).env = s.env := rfl
@[simp] theorem logRead_port (s : State) (v : Word) : (s.logRead v).port = s.port := rfl
@[simp] theorem logRead_readLog (s : State) (v : Word) : (s.logRead v).readLog = s.readLog ++ [v] := rfl
@[simp] theorem logRead_pinCalls (s : State) (v : Word) : (s.logRead v).pinCalls = s.pinCalls := rfl

/-! ### `dropRequest` -/

@[simp] theorem dropRequest_status (w : Word) (s : State) : (dropRequest w s).status = { s.status with ovr := true } := rfl
@[simp] theorem dropRequest_result (w : Word) (s : State) : (dropRequest w s).result = s.result := rfl
@[simp] theorem dropRequest_errStatus (w : Word) (s : State) : (dropRequest w s).errStatus = s.errStatus := rfl
@[simp] theorem dropRequest_addr (w : Word) (s : State) : (dropRequest w s).addr = s.addr := rfl
@[simp] theorem dropRequest_freq (w : Word) (s : State) : (dropRequest w s).freq = s.freq := rfl
@[simp] theorem dropRequest_snap (w : Word) (s : State) : (dropRequest w s).snap = s.snap := rfl
@[simp] theorem dropRequest_cfg (w : Word) (s : State) : (dropRequest w s).cfg = s.cfg := rfl
@[simp] theorem dropRequest_retry (w : Word) (s : State) : (dropRequest w s).retry = s.retry := rfl
@[simp] theorem dropRequest_lineRole (w : Word) (s : State) : (dropRequest w s).lineRole = s.lineRole := rfl
@[simp] theorem dropRequest_txbuf (w : Word) (s : State) : (dropRequest w s).txbuf = s.txbuf := rfl
@[simp] theorem dropRequest_rxbuf (w : Word) (s : State) : (dropRequest w s).rxbuf = s.rxbuf := rfl
@[simp] theorem dropRequest_ptr (w : Word) (s : State) : (dropRequest w s).ptr = s.ptr := rfl
@[simp] theorem dropRequest_lat (w : Word) (s : State) : (dropRequest w s).lat = s.lat := rfl
@[simp] theorem dropRequest_locals (w : Word) (s : State) : (dropRequest w s).locals = s.locals := rfl
@[simp] theorem dropRequest_trace (w : Word) (s : State) : (dropRequest w s).trace = s.trace ++ [.drop w] := rfl
@[simp] theorem dropRequest_xferMode (w : Word) (s : State) : (dropRequest w s).xferMode = s.xferMode := rfl
@[simp] theorem dropRequest_params (w : Word) (s : State) : (dropRequest w s).params = s.params := rfl
@[simp] theorem dropRequest_env (w : Word) (s : State) : (dropRequest w s).env = s.env := rfl
@[simp] theorem dropRequest_port (w : Word) (s : State) : (dropRequest w s).port = s.port := rfl
@[simp] theorem dropRequest_readLog (w : Word) (s : State) : (dropRequest w s).readLog = s.readLog := rfl
@[simp] theorem dropRequest_pinCalls (w : Word) (s : State) : (dropRequest w s).pinCalls = s.pinCalls := rfl

/-! ### `accept` -/

@[simp] theorem accept_status (w : Word) (ls : List Line) (s : State) :
    (accept w ls s).status = { s.status with ovr := false, active := true } := rfl
@[simp] theorem accept_result (w : Word) (ls : List Line) (s : State) : (accept w ls s).result = s.result := rfl
@[simp] theorem accept_errStatus (w : Word) (ls : List Line) (s : State) : (accept w ls s).errStatus = s.errStatus := rfl
@[simp] theorem accept_addr (w : Word) (ls : List Line) (s : State) : (accept w ls s).addr = s.addr := rfl
@[simp] theorem accept_freq (w : Word) (ls : List Line) (s : State) : (accept w ls s).freq = s.freq := rfl
@[simp] theorem accept_snap (w : Word) (ls : List Line) (s : State) : (accept w ls s).snap = s.snap := rfl
@[simp] theorem accept_cfg (w : Word) (ls : List Line) (s : State) : (accept w ls s).cfg = s.cfg := rfl
@[simp] theorem accept_retry (w : Word) (ls : List Line) (s : State) : (accept w ls s).retry = s.retry := rfl
@[simp] theorem accept_lineRole (w : Word) (ls : List Line) (s : State) : (accept w ls s).lineRole = s.lineRole := rfl
@[simp] theorem accept_txbuf (w : Word) (ls : List Line) (s : State) : (accept w ls s).txbuf = s.txbuf := rfl
@[simp] theorem accept_rxbuf (w : Word) (ls : List Line) (s : State) : (accept w ls s).rxbuf = s.rxbuf := rfl
@[simp] theorem accept_ptr (w : Word) (ls : List Line) (s : State) : (accept w ls s).ptr = ls := rfl
@[simp] theorem accept_lat (w : Word) (ls : List Line) (s : State) : (accept w ls s).lat = ⟨w, s.addr, s.freq,
    s.txbuf⟩ := rfl
@[simp] theorem accept_locals (w : Word) (ls : List Line) (s : State) : (accept w ls s).locals = Locals.clear := rfl
@[simp] theorem accept_trace (w : Word) (ls : List Line) (s : State) : (accept w ls s).trace = s.trace := rfl
@[simp] theorem accept_xferMode (w : Word) (ls : List Line) (s : State) : (accept w ls s).xferMode = s.xferMode := rfl
@[simp] theorem accept_params (w : Word) (ls : List Line) (s : State) : (accept w ls s).params = s.params := rfl
@[simp] theorem accept_env (w : Word) (ls : List Line) (s : State) : (accept w ls s).env = s.env := rfl
@[simp] theorem accept_port (w : Word) (ls : List Line) (s : State) : (accept w ls s).port = s.port := rfl
@[simp] theorem accept_readLog (w : Word) (ls : List Line) (s : State) : (accept w ls s).readLog = s.readLog := rfl
@[simp] theorem accept_pinCalls (w : Word) (ls : List Line) (s : State) : (accept w ls s).pinCalls = s.pinCalls := rfl

/-! ### `endOp` -/

@[simp] theorem endOp_status (c : BitVec 4) (info : ErrInfo) (s : State) :
    (endOp c info s).status = { s.status with active := false } := rfl
@[simp] theorem endOp_result (c : BitVec 4) (info : ErrInfo) (s : State) :
    (endOp c info s).result = ⟨c, s.latOp, info.opc.getD 0#8, info.sr1.getD 0#8, info.opc.isSome, info.sr1.isSome⟩ := rfl
@[simp] theorem endOp_errStatus (c : BitVec 4) (info : ErrInfo) (s : State) :
    (endOp c info s).errStatus = info.status.getD s.errStatus := rfl
@[simp] theorem endOp_addr (c : BitVec 4) (info : ErrInfo) (s : State) : (endOp c info s).addr = s.addr := rfl
@[simp] theorem endOp_freq (c : BitVec 4) (info : ErrInfo) (s : State) : (endOp c info s).freq = s.freq := rfl
@[simp] theorem endOp_snap (c : BitVec 4) (info : ErrInfo) (s : State) : (endOp c info s).snap = s.snap := rfl
@[simp] theorem endOp_cfg (c : BitVec 4) (info : ErrInfo) (s : State) : (endOp c info s).cfg = s.cfg := rfl
@[simp] theorem endOp_retry (c : BitVec 4) (info : ErrInfo) (s : State) : (endOp c info s).retry = s.retry := rfl
@[simp] theorem endOp_lineRole (c : BitVec 4) (info : ErrInfo) (s : State) : (endOp c info s).lineRole = s.lineRole := rfl
@[simp] theorem endOp_txbuf (c : BitVec 4) (info : ErrInfo) (s : State) : (endOp c info s).txbuf = s.txbuf := rfl
@[simp] theorem endOp_rxbuf (c : BitVec 4) (info : ErrInfo) (s : State) : (endOp c info s).rxbuf = s.rxbuf := rfl
@[simp] theorem endOp_ptr (c : BitVec 4) (info : ErrInfo) (s : State) : (endOp c info s).ptr = [] := rfl
@[simp] theorem endOp_lat (c : BitVec 4) (info : ErrInfo) (s : State) : (endOp c info s).lat = s.lat := rfl
@[simp] theorem endOp_locals (c : BitVec 4) (info : ErrInfo) (s : State) : (endOp c info s).locals = Locals.clear := rfl
@[simp] theorem endOp_trace (c : BitVec 4) (info : ErrInfo) (s : State) :
    (endOp c info s).trace = s.trace ++ [.done s.latOp c] := rfl
@[simp] theorem endOp_xferMode (c : BitVec 4) (info : ErrInfo) (s : State) : (endOp c info s).xferMode = s.xferMode := rfl
@[simp] theorem endOp_params (c : BitVec 4) (info : ErrInfo) (s : State) : (endOp c info s).params = s.params := rfl
@[simp] theorem endOp_env (c : BitVec 4) (info : ErrInfo) (s : State) : (endOp c info s).env = s.env := rfl
@[simp] theorem endOp_port (c : BitVec 4) (info : ErrInfo) (s : State) : (endOp c info s).port = s.port := rfl
@[simp] theorem endOp_readLog (c : BitVec 4) (info : ErrInfo) (s : State) : (endOp c info s).readLog = s.readLog := rfl
@[simp] theorem endOp_pinCalls (c : BitVec 4) (info : ErrInfo) (s : State) : (endOp c info s).pinCalls = s.pinCalls := rfl

/-! ### `abortRecovery` -/

@[simp] theorem abortRecovery_status (s : State) :
    (abortRecovery s).status = (if s.latOp = 0x8#4 then s.status.setOrch .aborted else s.status) := rfl
@[simp] theorem abortRecovery_result (s : State) : (abortRecovery s).result = s.result := rfl
@[simp] theorem abortRecovery_errStatus (s : State) : (abortRecovery s).errStatus = s.errStatus := rfl
@[simp] theorem abortRecovery_addr (s : State) : (abortRecovery s).addr = s.addr := rfl
@[simp] theorem abortRecovery_freq (s : State) : (abortRecovery s).freq = s.freq := rfl
@[simp] theorem abortRecovery_snap (s : State) : (abortRecovery s).snap = s.snap := rfl
@[simp] theorem abortRecovery_cfg (s : State) : (abortRecovery s).cfg = s.cfg := rfl
@[simp] theorem abortRecovery_retry (s : State) : (abortRecovery s).retry = s.retry := rfl
@[simp] theorem abortRecovery_lineRole (s : State) : (abortRecovery s).lineRole = s.lineRole := rfl
@[simp] theorem abortRecovery_txbuf (s : State) : (abortRecovery s).txbuf = s.txbuf := rfl
@[simp] theorem abortRecovery_rxbuf (s : State) : (abortRecovery s).rxbuf = s.rxbuf := rfl
@[simp] theorem abortRecovery_ptr (s : State) : (abortRecovery s).ptr = s.ptr := rfl
@[simp] theorem abortRecovery_lat (s : State) : (abortRecovery s).lat = s.lat := rfl
@[simp] theorem abortRecovery_locals (s : State) : (abortRecovery s).locals = s.locals := rfl
@[simp] theorem abortRecovery_trace (s : State) : (abortRecovery s).trace = s.trace := rfl
@[simp] theorem abortRecovery_xferMode (s : State) : (abortRecovery s).xferMode = s.xferMode := rfl
@[simp] theorem abortRecovery_params (s : State) : (abortRecovery s).params = s.params := rfl
@[simp] theorem abortRecovery_env (s : State) : (abortRecovery s).env = s.env := rfl
@[simp] theorem abortRecovery_port (s : State) : (abortRecovery s).port = s.port := rfl
@[simp] theorem abortRecovery_readLog (s : State) : (abortRecovery s).readLog = s.readLog := rfl
@[simp] theorem abortRecovery_pinCalls (s : State) : (abortRecovery s).pinCalls = s.pinCalls := rfl

/-! ### `frameSent` -/

@[simp] theorem frameSent_status (f : WireFrame) (r : Reply) (s : State) : (frameSent f r s).status = s.status.stale f := rfl
@[simp] theorem frameSent_result (f : WireFrame) (r : Reply) (s : State) : (frameSent f r s).result = s.result := rfl
@[simp] theorem frameSent_errStatus (f : WireFrame) (r : Reply) (s : State)
    : (frameSent f r s).errStatus = s.errStatus := rfl
@[simp] theorem frameSent_addr (f : WireFrame) (r : Reply) (s : State) : (frameSent f r s).addr = s.addr := rfl
@[simp] theorem frameSent_freq (f : WireFrame) (r : Reply) (s : State) : (frameSent f r s).freq = s.freq := rfl
@[simp] theorem frameSent_snap (f : WireFrame) (r : Reply) (s : State) : (frameSent f r s).snap = s.snap := rfl
@[simp] theorem frameSent_cfg (f : WireFrame) (r : Reply) (s : State) : (frameSent f r s).cfg = s.cfg := rfl
@[simp] theorem frameSent_retry (f : WireFrame) (r : Reply) (s : State) : (frameSent f r s).retry = s.retry := rfl
@[simp] theorem frameSent_lineRole (f : WireFrame) (r : Reply) (s : State) : (frameSent f r s).lineRole = s.lineRole := rfl
@[simp] theorem frameSent_txbuf (f : WireFrame) (r : Reply) (s : State) : (frameSent f r s).txbuf = s.txbuf := rfl
@[simp] theorem frameSent_rxbuf (f : WireFrame) (r : Reply) (s : State) : (frameSent f r s).rxbuf = s.rxbuf := rfl
@[simp] theorem frameSent_ptr (f : WireFrame) (r : Reply) (s : State) : (frameSent f r s).ptr = s.ptr := rfl
@[simp] theorem frameSent_lat (f : WireFrame) (r : Reply) (s : State) : (frameSent f r s).lat = s.lat := rfl
@[simp] theorem frameSent_locals (f : WireFrame) (r : Reply) (s : State) : (frameSent f r s).locals = s.locals := rfl
@[simp] theorem frameSent_trace (f : WireFrame) (r : Reply) (s : State) :
    (frameSent f r s).trace = s.trace ++ [frameEvent f r] := rfl
@[simp] theorem frameSent_xferMode (f : WireFrame) (r : Reply) (s : State) : (frameSent f r s).xferMode = s.xferMode := rfl
@[simp] theorem frameSent_params (f : WireFrame) (r : Reply) (s : State) : (frameSent f r s).params = s.params := rfl
@[simp] theorem frameSent_env (f : WireFrame) (r : Reply) (s : State) : (frameSent f r s).env = s.env := rfl
@[simp] theorem frameSent_port (f : WireFrame) (r : Reply) (s : State) : (frameSent f r s).port = s.port := rfl
@[simp] theorem frameSent_readLog (f : WireFrame) (r : Reply) (s : State) : (frameSent f r s).readLog = s.readLog := rfl
@[simp] theorem frameSent_pinCalls (f : WireFrame) (r : Reply) (s : State) : (frameSent f r s).pinCalls = s.pinCalls := rfl

/-! ### `frameDone` -/

@[simp] theorem frameDone_status (r : Reply) (s : State) : (frameDone r s).status = s.status := rfl
@[simp] theorem frameDone_result (r : Reply) (s : State) : (frameDone r s).result = s.result := rfl
@[simp] theorem frameDone_errStatus (r : Reply) (s : State) : (frameDone r s).errStatus = s.errStatus := rfl
@[simp] theorem frameDone_addr (r : Reply) (s : State) : (frameDone r s).addr = s.addr := rfl
@[simp] theorem frameDone_freq (r : Reply) (s : State) : (frameDone r s).freq = s.freq := rfl
@[simp] theorem frameDone_snap (r : Reply) (s : State) : (frameDone r s).snap = s.snap := rfl
@[simp] theorem frameDone_cfg (r : Reply) (s : State) : (frameDone r s).cfg = s.cfg := rfl
@[simp] theorem frameDone_retry (r : Reply) (s : State) : (frameDone r s).retry = s.retry := rfl
@[simp] theorem frameDone_lineRole (r : Reply) (s : State) : (frameDone r s).lineRole = s.lineRole := rfl
@[simp] theorem frameDone_txbuf (r : Reply) (s : State) : (frameDone r s).txbuf = s.txbuf := rfl
@[simp] theorem frameDone_rxbuf (r : Reply) (s : State) : (frameDone r s).rxbuf = s.rxbuf.writeBytes 0x80 r.rx := rfl
@[simp] theorem frameDone_ptr (r : Reply) (s : State) : (frameDone r s).ptr = nextLines s.ptr := rfl
@[simp] theorem frameDone_lat (r : Reply) (s : State) : (frameDone r s).lat = s.lat := rfl
@[simp] theorem frameDone_locals (r : Reply) (s : State) : (frameDone r s).locals = s.locals.keep s.ptr r.rx := rfl
@[simp] theorem frameDone_trace (r : Reply) (s : State) : (frameDone r s).trace = s.trace := rfl
@[simp] theorem frameDone_xferMode (r : Reply) (s : State) : (frameDone r s).xferMode = s.xferMode := rfl
@[simp] theorem frameDone_params (r : Reply) (s : State) : (frameDone r s).params = s.params := rfl
@[simp] theorem frameDone_env (r : Reply) (s : State) : (frameDone r s).env = s.env := rfl
@[simp] theorem frameDone_port (r : Reply) (s : State) : (frameDone r s).port = s.port := rfl
@[simp] theorem frameDone_readLog (r : Reply) (s : State) : (frameDone r s).readLog = s.readLog := rfl
@[simp] theorem frameDone_pinCalls (r : Reply) (s : State) : (frameDone r s).pinCalls = s.pinCalls := rfl

/-! ### `raise` -/

@[simp] theorem raise_status (k : ErrKind) (info : ErrInfo) (s : State) :
    (raise k info s).status = { (abortRecovery s).status with active := false } := rfl
@[simp] theorem raise_result (k : ErrKind) (info : ErrInfo) (s : State) :
    (raise k info s).result = ⟨k.code, s.latOp, info.opc.getD 0#8, info.sr1.getD 0#8, info.opc.isSome,
        info.sr1.isSome⟩ := rfl
@[simp] theorem raise_errStatus (k : ErrKind) (info : ErrInfo) (s : State) :
    (raise k info s).errStatus = info.status.getD s.errStatus := rfl
@[simp] theorem raise_addr (k : ErrKind) (info : ErrInfo) (s : State) : (raise k info s).addr = s.addr := rfl
@[simp] theorem raise_freq (k : ErrKind) (info : ErrInfo) (s : State) : (raise k info s).freq = s.freq := rfl
@[simp] theorem raise_snap (k : ErrKind) (info : ErrInfo) (s : State) : (raise k info s).snap = s.snap := rfl
@[simp] theorem raise_cfg (k : ErrKind) (info : ErrInfo) (s : State) : (raise k info s).cfg = s.cfg := rfl
@[simp] theorem raise_retry (k : ErrKind) (info : ErrInfo) (s : State) : (raise k info s).retry = s.retry := rfl
@[simp] theorem raise_lineRole (k : ErrKind) (info : ErrInfo) (s : State) : (raise k info s).lineRole = s.lineRole := rfl
@[simp] theorem raise_txbuf (k : ErrKind) (info : ErrInfo) (s : State) : (raise k info s).txbuf = s.txbuf := rfl
@[simp] theorem raise_rxbuf (k : ErrKind) (info : ErrInfo) (s : State) : (raise k info s).rxbuf = s.rxbuf := rfl
@[simp] theorem raise_ptr (k : ErrKind) (info : ErrInfo) (s : State) : (raise k info s).ptr = [] := rfl
@[simp] theorem raise_lat (k : ErrKind) (info : ErrInfo) (s : State) : (raise k info s).lat = s.lat := rfl
@[simp] theorem raise_locals (k : ErrKind) (info : ErrInfo) (s : State) : (raise k info s).locals = Locals.clear := rfl
@[simp] theorem raise_trace (k : ErrKind) (info : ErrInfo) (s : State) :
    (raise k info s).trace = s.trace ++ [.done s.latOp k.code] := rfl
@[simp] theorem raise_xferMode (k : ErrKind) (info : ErrInfo) (s : State) : (raise k info s).xferMode = s.xferMode := rfl
@[simp] theorem raise_params (k : ErrKind) (info : ErrInfo) (s : State) : (raise k info s).params = s.params := rfl
@[simp] theorem raise_env (k : ErrKind) (info : ErrInfo) (s : State) : (raise k info s).env = s.env := rfl
@[simp] theorem raise_port (k : ErrKind) (info : ErrInfo) (s : State) : (raise k info s).port = s.port := rfl
@[simp] theorem raise_readLog (k : ErrKind) (info : ErrInfo) (s : State) : (raise k info s).readLog = s.readLog := rfl
@[simp] theorem raise_pinCalls (k : ErrKind) (info : ErrInfo) (s : State) : (raise k info s).pinCalls = s.pinCalls := rfl

/-! ### `frameFailed` -/

@[simp] theorem frameFailed_status (f : WireFrame) (r : Reply) (s : State) :
    (frameFailed f r s).status = { (if s.latOp = 0x8#4 then (s.status.dropped s.ptr).setOrch .aborted else
        s.status.dropped s.ptr) with active := false } := rfl
@[simp] theorem frameFailed_result (f : WireFrame) (r : Reply) (s : State) :
    (frameFailed f r s).result = ⟨0x1#4, s.latOp, f.opc, 0#8, true, false⟩ := rfl
@[simp] theorem frameFailed_errStatus (f : WireFrame) (r : Reply) (s : State) : (frameFailed f r s).errStatus = r.st := rfl
@[simp] theorem frameFailed_addr (f : WireFrame) (r : Reply) (s : State) : (frameFailed f r s).addr = s.addr := rfl
@[simp] theorem frameFailed_freq (f : WireFrame) (r : Reply) (s : State) : (frameFailed f r s).freq = s.freq := rfl
@[simp] theorem frameFailed_snap (f : WireFrame) (r : Reply) (s : State) : (frameFailed f r s).snap = s.snap := rfl
@[simp] theorem frameFailed_cfg (f : WireFrame) (r : Reply) (s : State) : (frameFailed f r s).cfg = s.cfg := rfl
@[simp] theorem frameFailed_retry (f : WireFrame) (r : Reply) (s : State) : (frameFailed f r s).retry = s.retry := rfl
@[simp] theorem frameFailed_lineRole (f : WireFrame) (r : Reply) (s : State)
    : (frameFailed f r s).lineRole = s.lineRole := rfl
@[simp] theorem frameFailed_txbuf (f : WireFrame) (r : Reply) (s : State) : (frameFailed f r s).txbuf = s.txbuf := rfl
@[simp] theorem frameFailed_rxbuf (f : WireFrame) (r : Reply) (s : State) : (frameFailed f r s).rxbuf = s.rxbuf := rfl
@[simp] theorem frameFailed_ptr (f : WireFrame) (r : Reply) (s : State) : (frameFailed f r s).ptr = [] := rfl
@[simp] theorem frameFailed_lat (f : WireFrame) (r : Reply) (s : State) : (frameFailed f r s).lat = s.lat := rfl
@[simp] theorem frameFailed_locals (f : WireFrame) (r : Reply) (s : State) : (frameFailed f r s).locals = Locals.clear := rfl
@[simp] theorem frameFailed_trace (f : WireFrame) (r : Reply) (s : State) :
    (frameFailed f r s).trace = s.trace ++ [.done s.latOp 0x1#4] := rfl
@[simp] theorem frameFailed_xferMode (f : WireFrame) (r : Reply) (s : State)
    : (frameFailed f r s).xferMode = s.xferMode := rfl
@[simp] theorem frameFailed_params (f : WireFrame) (r : Reply) (s : State) : (frameFailed f r s).params = s.params := rfl
@[simp] theorem frameFailed_env (f : WireFrame) (r : Reply) (s : State) : (frameFailed f r s).env = s.env := rfl
@[simp] theorem frameFailed_port (f : WireFrame) (r : Reply) (s : State) : (frameFailed f r s).port = s.port := rfl
@[simp] theorem frameFailed_readLog (f : WireFrame) (r : Reply) (s : State) : (frameFailed f r s).readLog = s.readLog := rfl
@[simp] theorem frameFailed_pinCalls (f : WireFrame) (r : Reply) (s : State)
    : (frameFailed f r s).pinCalls = s.pinCalls := rfl

/-! ### `reject` -/

@[simp] theorem reject_status (s : State) : (reject s).status = { s.status with active := false } := rfl
@[simp] theorem reject_result (s : State) : (reject s).result = ⟨0x5#4, s.latOp, 0#8, 0#8, false, false⟩ := rfl
@[simp] theorem reject_errStatus (s : State) : (reject s).errStatus = s.errStatus := rfl
@[simp] theorem reject_addr (s : State) : (reject s).addr = s.addr := rfl
@[simp] theorem reject_freq (s : State) : (reject s).freq = s.freq := rfl
@[simp] theorem reject_snap (s : State) : (reject s).snap = s.snap := rfl
@[simp] theorem reject_cfg (s : State) : (reject s).cfg = s.cfg := rfl
@[simp] theorem reject_retry (s : State) : (reject s).retry = s.retry := rfl
@[simp] theorem reject_lineRole (s : State) : (reject s).lineRole = s.lineRole := rfl
@[simp] theorem reject_txbuf (s : State) : (reject s).txbuf = s.txbuf := rfl
@[simp] theorem reject_rxbuf (s : State) : (reject s).rxbuf = s.rxbuf := rfl
@[simp] theorem reject_ptr (s : State) : (reject s).ptr = [] := rfl
@[simp] theorem reject_lat (s : State) : (reject s).lat = s.lat := rfl
@[simp] theorem reject_locals (s : State) : (reject s).locals = Locals.clear := rfl
@[simp] theorem reject_trace (s : State) : (reject s).trace = s.trace ++ [.done s.latOp 0x5#4] := rfl
@[simp] theorem reject_xferMode (s : State) : (reject s).xferMode = s.xferMode := rfl
@[simp] theorem reject_params (s : State) : (reject s).params = s.params := rfl
@[simp] theorem reject_env (s : State) : (reject s).env = s.env := rfl
@[simp] theorem reject_port (s : State) : (reject s).port = s.port := rfl
@[simp] theorem reject_readLog (s : State) : (reject s).readLog = s.readLog := rfl
@[simp] theorem reject_pinCalls (s : State) : (reject s).pinCalls = s.pinCalls := rfl

/-! ### `finish` -/

@[simp] theorem finish_status (s : State) : (finish s).status = { s.status with active := false } := rfl
@[simp] theorem finish_result (s : State) : (finish s).result = ⟨0x0#4, s.latOp, 0#8, 0#8, false, false⟩ := rfl
@[simp] theorem finish_errStatus (s : State) : (finish s).errStatus = s.errStatus := rfl
@[simp] theorem finish_addr (s : State) : (finish s).addr = s.addr := rfl
@[simp] theorem finish_freq (s : State) : (finish s).freq = s.freq := rfl
@[simp] theorem finish_snap (s : State) : (finish s).snap = s.snap := rfl
@[simp] theorem finish_cfg (s : State) : (finish s).cfg = s.cfg := rfl
@[simp] theorem finish_retry (s : State) : (finish s).retry = s.retry := rfl
@[simp] theorem finish_lineRole (s : State) : (finish s).lineRole = s.lineRole := rfl
@[simp] theorem finish_txbuf (s : State) : (finish s).txbuf = s.txbuf := rfl
@[simp] theorem finish_rxbuf (s : State) : (finish s).rxbuf = s.rxbuf := rfl
@[simp] theorem finish_ptr (s : State) : (finish s).ptr = [] := rfl
@[simp] theorem finish_lat (s : State) : (finish s).lat = s.lat := rfl
@[simp] theorem finish_locals (s : State) : (finish s).locals = Locals.clear := rfl
@[simp] theorem finish_trace (s : State) : (finish s).trace = s.trace ++ [.done s.latOp 0x0#4] := rfl
@[simp] theorem finish_xferMode (s : State) : (finish s).xferMode = s.xferMode := rfl
@[simp] theorem finish_params (s : State) : (finish s).params = s.params := rfl
@[simp] theorem finish_env (s : State) : (finish s).env = s.env := rfl
@[simp] theorem finish_port (s : State) : (finish s).port = s.port := rfl
@[simp] theorem finish_readLog (s : State) : (finish s).readLog = s.readLog := rfl
@[simp] theorem finish_pinCalls (s : State) : (finish s).pinCalls = s.pinCalls := rfl

end Sys2Proof.Machine
end

