-- ==== Sys2Proof/Laws/Ops.lean ====
section
/-! SUPPORT. One specification for each shared operation: what it answers and what it leaves alone. -/

namespace Sys2Proof.Machine

open Sys2Proof.Config

/-! ### Draws and operands -/

/-- While draws are written into the state, a draw takes the first. -/
theorem draw_cons (e : Env) (d : Word) (ds : List Word) (h : e.draws = d :: ds) :
    e.draw = (d, { e with draws := ds }) := by
  simp [Env.draw, h]

/-- A draw leaves the responder as it is. -/
@[simp] theorem draw_responder (e : Env) : e.draw.2.responder = e.responder := by
  unfold Env.draw
  split <;> rfl

/-- n bytes drawn are n bytes, and leave the responder as it is. -/
theorem drawBytes_spec (n : Nat) (e : Env) :
    (Env.drawBytes n e).1.length = n ∧ (Env.drawBytes n e).2.responder = e.responder := by
  induction n generalizing e with
  | zero => exact ⟨rfl, rfl⟩
  | succ n ih => simp [Env.drawBytes, ih]

/-- A written operand reads as its value, and nothing is drawn (R27, R28). -/
theorem readOperand_written (r : HostReg) (e : Env) (h : r.written = true) : readOperand r e = (r.value, e) := by
  simp [readOperand, h]

/-- An operand that nothing has written reads as a draw (R49). -/
theorem readOperand_unwritten (r : HostReg) (e : Env) (h : r.written = false) : readOperand r e = e.draw := by
  simp [readOperand, h]

/-- `MemRead` gives as many bytes as asked for (R61). -/
theorem memRead_length (m : Memory) (i n : Nat) (e : Env) : (memRead m i n e).1.length = n := by
  induction n generalizing i e with
  | zero => rfl
  | succ n ih => simp [memRead, ih]

/-- A payload whose bytes are written reads as those bytes, and nothing is drawn. -/
theorem memRead_written (m : Memory) (i : Nat) (b : Byte) (e : Env) (h : m.read i = some b) :
    memRead m i 1 e = ([b], e) := by
  simp [memRead, readPayload, h]

/-- A draw made non-zero is non-zero. -/
theorem nonZero_ne (d : Word) : nonZero d ≠ 0#32 := by
  unfold nonZero
  split
  · decide
  · assumption

/-- Every non-zero word is the image of a draw: itself. -/
theorem nonZero_of_ne (d : Word) (h : d ≠ 0#32) : nonZero d = d := by simp [nonZero, h]

/-! ### The end of an operation -/

/-- Outside RUN_RECOVERY, `raise` is the end of the operation with the kind's code. -/
theorem raise_plain (k : ErrKind) (info : ErrInfo) (s : State) (h : s.latOp ≠ 0x8#4) :
    raise k info s = endOp k.code info s := by
  simp [raise, abortRecovery, h]

/-- Inside RUN_RECOVERY, `raise` sets the orchestrator to Aborted and ends the operation (R234). -/
theorem raise_recovery (k : ErrKind) (info : ErrInfo) (s : State) (h : s.latOp = 0x8#4) :
    raise k info s = endOp k.code info (s.setOrch .aborted) := by
  simp [raise, abortRecovery, State.setOrch, h]

/-! ### Frames -/

/-- A byte's wire bits give the byte back. -/
theorem byteOfBits_wireBits (b : Byte) : byteOfBits (wireBits b) = b := by
  revert b
  decide +kernel

theorem takeByte_wireBits (b : Byte) (rest : List Bool) : takeByte (wireBits b ++ rest) = some (b, rest) :=
  congrArg (fun x => some (x, rest)) (byteOfBits_wireBits b)

/-- The bytes assembled from the wire bits of some bytes are those bytes (R64, R84). -/
theorem bytesOfBits_flatMap (bs : List Byte) : bytesOfBits bs.length (bs.flatMap wireBits) = bs := by
  induction bs with
  | nil => rfl
  | cons b bs ih =>
    simp only [List.length_cons, List.flatMap_cons, bytesOfBits, takeByte_wireBits, ih]

theorem setWidth_byte_word (b : Byte) : BitVec.setWidth 8 (BitVec.setWidth 32 b) = b := by
  apply BitVec.eq_of_toNat_eq
  simp

/-- In the normative environment a frame whose status draw is not 0 fails with it. -/
theorem busFrame_fails (p : Params) (l : LineRole) (f : WireFrame) (st : Word) (ds : List Word) (n : Nat)
    (hst : st ≠ 0#32) : busFrame p l f ⟨none, st :: ds, n⟩ = (⟨st, []⟩, ⟨none, ds, n⟩) := by
  simp [busFrame, Env.draw, hst]

/-- In the normative environment a frame that reads one byte gets status and byte from the next two draws. -/
theorem busFrame_reads (p : Params) (l : LineRole) (f : WireFrame) (b : Byte) (ds : List Word) (n : Nat)
    (hn : f.nr = 1) :
    busFrame p l f ⟨none, 0#32 :: b.setWidth 32 :: ds, n⟩ = (⟨0#32, [b]⟩, ⟨none, ds, n⟩) := by
  have hb := bytesOfBits_flatMap [b]
  simp only [List.length_singleton] at hb
  simp only [busFrame, Env.draw, hn, Env.drawBytes, setWidth_byte_word, hb, if_true]

/-- In the normative environment a frame that reads nothing gets its status from the next draw. -/
theorem busFrame_writes (p : Params) (l : LineRole) (f : WireFrame) (ds : List Word) (n : Nat) (hn : f.nr = 0) :
    busFrame p l f ⟨none, 0#32 :: ds, n⟩ = (⟨0#32, []⟩, ⟨none, ds, n⟩) := by
  simp [busFrame, Env.draw, hn, Env.drawBytes, bytesOfBits]

/-- The configuration status is 0 exactly for a legal width and frequency (R142). -/
theorem transportConfigure_zero_iff (p : Params) (aw freq : Word) (e : Env) :
    (transportConfigure p aw freq e).1 = 0#32 ↔ (p.legalAw.admits aw && p.legalFreq.contains freq) = true := by
  unfold transportConfigure
  split
  · rename_i h
    exact ⟨fun _ => h, fun _ => rfl⟩
  · rename_i h
    exact ⟨fun hz => absurd hz (nonZero_ne _), fun hz => absurd hz h⟩

/-! ### The host's accesses -/

/-- An access that is admitted gives a next state, and one that is not is refused (R65). -/
theorem hostWrite_spec (i : Nat) (wd : Width) (v : Word) (s : State) :
    ((hostIndex s.params i).admits wd = true → hostWrite i wd v s = .next (writeIndex (hostIndex s.params i) i v s)) ∧
      ((hostIndex s.params i).admits wd = false → hostWrite i wd v s = .refused .outsideInterface) := by
  constructor
  · intro h
    simp [hostWrite, h]
  · intro h
    simp [hostWrite, h]

/-- A host read that completes changes the log of read values alone (R46). -/
theorem hostRead_next (i : Nat) (wd : Width) (s t : State) (h : hostRead i wd s = .next t) :
    t = s.logRead (s.readIndex (hostIndex s.params i) i) := by
  unfold hostRead at h
  split at h
  · split at h
    · cases h
    · split at h
      · cases h
      · cases h
        rfl
  · cases h

/-! ### The status layout -/

/-- No two decoded fields of a layout share a bit (R181). -/
theorem layout_bits_nodup (l : SrLayout) : l.bits.Nodup := of_decide_eq_true l.noSharedBit

/-- WEL never stands at BUSY's bit. -/
theorem layout_wel_ne_busy (l : SrLayout) : l.wel ≠ 0 := fun h =>
  (List.nodup_cons.mp (layout_bits_nodup l)).1 (by simp [h])

end Sys2Proof.Machine
end

