-- ==== Sys2Proof/Laws/PerInstr.lean ====
section
/-! SUPPORT. Families of facts about every instruction as syntax: one lemma for each constructor. -/

namespace Sys2Proof.Laws.EncodedKind

open Sys2Proof.Machine

/-- A request operation is encoded as a request word and has lines of its own to run; a wire command is encoded as a frame of one
or two bytes and has none (R85, R90, R95). -/
def Statement (i : Instr) : Prop :=
  match encode i with
  | .request _ => i.lines.isSome = true
  | .frame bits => i.lines = none ∧ (bits.length = 8 ∨ bits.length = 16)

theorem configure (f : Fields) : Statement (.configure f) := rfl
theorem transfer (f : Fields) : Statement (.transfer f) := rfl
theorem waitReady (f : Fields) : Statement (.waitReady f) := rfl
theorem enableWrite (f : Fields) : Statement (.enableWrite f) := rfl
theorem readDecode (f : Fields) : Statement (.readDecode f) := rfl
theorem releaseLatch (f : Fields) : Statement (.releaseLatch f) := rfl
theorem resetProtection (f : Fields) : Statement (.resetProtection f) := rfl
theorem runRecovery (f : Fields) : Statement (.runRecovery f) := rfl
theorem rdsr1 : Statement .rdsr1 := ⟨rfl, .inl rfl⟩
theorem rdsr2 : Statement .rdsr2 := ⟨rfl, .inl rfl⟩
theorem rdsr3 : Statement .rdsr3 := ⟨rfl, .inl rfl⟩
theorem wren : Statement .wren := ⟨rfl, .inl rfl⟩
theorem wrsr1 (v : Byte) : Statement (.wrsr1 v) := ⟨rfl, .inr rfl⟩
theorem transferRdsr1 : Statement .transferRdsr1 := rfl
theorem transferRdsr2 : Statement .transferRdsr2 := rfl
theorem transferRdsr3 : Statement .transferRdsr3 := rfl
theorem transferWren : Statement .transferWren := rfl
theorem transferWrsr1 : Statement .transferWrsr1 := rfl

end Sys2Proof.Laws.EncodedKind
end

