-- ==== Sys2Proof/Laws/Run.lean ====
section
/-! SUPPORT. Running: how a run unfolds round by round, what a round is while the outside world is quiet, and how runs of parts
join. -/

namespace Sys2Proof.Machine

open Sys2Proof.Config

/-! ### Runs -/

/-- An ended operation does not run on. -/
theorem run_inactive (n : Nat) (s : State) (h : s.status.active = false) : run n s = s := by
  cases n with
  | zero => rfl
  | succ n => simp [run, h]

/-- A running operation runs one round, then the rest. -/
theorem run_succ (n : Nat) (s : State) (h : s.status.active = true) : run (n + 1) s = run n (round s) := by
  simp [run, h]

/-- A run of m + n rounds is a run of m, then one of n. -/
theorem run_add (m n : Nat) (s : State) : run (m + n) s = run n (run m s) := by
  induction m generalizing s with
  | zero => simp [run]
  | succ m ih =>
    cases h : s.status.active with
    | false => rw [run_inactive _ s h, run_inactive _ s h, run_inactive _ s h]
    | true => rw [Nat.succ_add, run_succ _ s h, run_succ _ s h, ih]

/-- A request accepted by an idle block. -/
theorem request_idle (w : Word) (ls : List Line) (s : State) (h : s.status.active = false) :
    request w ls s = run roundLimit (accept w (ls ++ [.endOk]) s) := by
  simp [request, h]

/-- A request while an operation runs is dropped (R88). -/
theorem request_active (w : Word) (ls : List Line) (s : State) (h : s.status.active = true) :
    request w ls s = dropRequest w s := by
  simp [request, h]

/-! ### Quiet rounds -/

/-- A quiet outside world changes nothing. -/
theorem deliver_quiet (s : State) (h : s.quiet = true) : deliver s.port s = s := by
  unfold State.quiet at h
  split at h
  · rename_i hp
    rw [hp, deliver, ← hp]
  · rename_i hp
    rw [hp, deliver, ← hp]
  · cases h

/-- A quiet round of a running operation is its next line. -/
theorem round_quiet (s : State) (h : s.quiet = true) (ha : s.status.active = true) : round s = runLine s := by
  simp [round, deliver_quiet s h, ha]

/-- The next line of the pointer. -/
theorem runLine_cons (s : State) (l : Line) (rest : List Line) (h : s.ptr = l :: rest) : runLine s = lineEffect l s := by
  simp [runLine, h]

/-! ### What no line touches -/

/-- A frame never touches the port, the parameters, the read log, the operand registers or the latched request. -/
theorem xfer_keeps (f : WireFrame) (s : State) :
    (xfer f s).port = s.port ∧ (xfer f s).params = s.params ∧ (xfer f s).readLog = s.readLog ∧
      (xfer f s).addr = s.addr ∧ (xfer f s).freq = s.freq ∧ (xfer f s).txbuf = s.txbuf ∧ (xfer f s).lat = s.lat := by
  unfold xfer afterFrame
  repeat' split
  all_goals simp

/-- A line never touches the port, the parameters, the read log, the operand registers or the latched request (R37, R46). -/
theorem runLine_keeps (s : State) :
    (runLine s).port = s.port ∧ (runLine s).params = s.params ∧ (runLine s).readLog = s.readLog ∧
      (runLine s).addr = s.addr ∧ (runLine s).freq = s.freq ∧ (runLine s).txbuf = s.txbuf ∧ (runLine s).lat = s.lat := by
  unfold runLine
  split
  · simp
  · rename_i l _ _
    unfold lineEffect
    split <;>
      first
        | exact xfer_keeps _ _
        | simp only [lineNeedConfigured, lineNeedUnconfigured, lineNeedUnreleased, lineNeedFresh, lineCfgCheck,
            lineXferCheck, linePollReady, linePollExhausted, lineVerifyLatch, lineVerifyCleared]
          split <;> simp
        | simp [lineCfgOperands, lineCfgTransport, lineCfgEmit, lineCfgRecord, lineXferDescriptor, lineXferLoad,
            lineLoadRetry, linePollCount, linePollWait, lineSnapStore, linePinMode, lineMarkReleased, lineSetOrch]

/-- A line keeps the outside world quiet. -/
theorem runLine_quiet (s : State) (h : s.quiet = true) : (runLine s).quiet = true := by
  unfold State.quiet at h ⊢
  rw [(runLine_keeps s).1]
  exact h

end Sys2Proof.Machine
end

