-- ==== Sys2Proof/Laws/Segments.lean ====
section
/-! SUPPORT. What a frame and each sub-operation do to a run when the environment answers well, and what a write sequence does up to
the part that stops it: one lemma for each, so that a run of an operation is a chain of them. -/

namespace Sys2Proof.Machine

open Sys2Proof.Config

/-! ### Frames and lines -/

/-- Quiet is a matter of the port alone. -/
theorem quiet_of_port {s t : State} (hq : s.quiet = true) (h : t.port = s.port) : t.quiet = true := by
  unfold State.quiet at hq ⊢
  rw [h]
  exact hq

/-- A frame that reads one byte and succeeds (R113, R114). -/
theorem xfer_reads (f : WireFrame) (s : State) (b : Byte) (e' : Env) (hm : s.xferMode = .single) (hf : f.admitted = true)
    (h : Env.reads s.params s.latchRole f [b] s.env e') :
    xfer f s =
      { s with
        status := s.status.stale f
        trace := s.trace ++ [.frame f.opc f.addr f.tx f.nr 0#32 [b]]
        rxbuf := s.rxbuf.write 0x80 b
        locals := s.locals.keep s.ptr [b]
        ptr := nextLines s.ptr
        env := e' } := by
  obtain ⟨h1, h2⟩ := h
  have hr : s.reply f = ⟨0#32, [b]⟩ := h1
  have he : s.envAfter f = e' := h2.symm
  simp [xfer, hm, hf, hr, he, afterFrame, frameDone, frameSent, frameEvent, Memory.writeBytes]

/-- A frame that reads nothing and succeeds (R113). -/
theorem xfer_acks (f : WireFrame) (s : State) (e' : Env) (hm : s.xferMode = .single) (hf : f.admitted = true)
    (h : Env.acks s.params s.latchRole f s.env e') :
    xfer f s =
      { s with
        status := s.status.stale f
        trace := s.trace ++ [.frame f.opc f.addr f.tx f.nr 0#32 []]
        ptr := nextLines s.ptr
        env := e' } := by
  have hr : s.reply f = ⟨0#32, []⟩ := congrArg Prod.fst h
  have he : s.envAfter f = e' := congrArg Prod.snd h
  have hk : s.locals.keep s.ptr [] = s.locals := by
    unfold Locals.keep
    split <;> simp_all
  simp [xfer, hm, hf, hr, he, afterFrame, frameDone, frameSent, frameEvent, Memory.writeBytes, hk]

/-- A quiet run performs the line its pointer names. -/
theorem run_line (n : Nat) (s : State) (l : Line) (rest : List Line) (ha : s.status.active = true) (hq : s.quiet = true)
    (hp : s.ptr = l :: rest) : run (n + 1) s = run n (lineEffect l s) := by
  rw [run_succ n s ha, round_quiet s hq ha, runLine_cons s l rest hp]

/-! ### The poll loop -/

/-- WAIT_READY's line 5 after a busy answer goes on to line 6. -/
theorem poll_ready_run (k : Nat) (s : State) (ls : List Line) (hp : s.ptr = .poll .ready :: ls)
    (ha : s.status.active = true) (hq : s.quiet = true) (hb : busy s.locals.sr1 = true) :
    run (k + 1) s = run k { s with ptr := .poll .count :: ls } := by
  refine (run_line _ s _ _ ha hq hp).trans ?_
  simp [lineEffect, linePollReady, hb, State.advance, hp, nextLines]

/-- WAIT_READY's line 6 counts RETRY down. -/
theorem poll_count_run (k : Nat) (s : State) (ls : List Line) (hp : s.ptr = .poll .count :: ls)
    (ha : s.status.active = true) (hq : s.quiet = true) :
    run (k + 1) s = run k { s with ptr := .poll .exhausted :: ls, retry := s.retry - 1#14 } := by
  refine (run_line _ s _ _ ha hq hp).trans ?_
  simp [lineEffect, linePollCount, State.advance, hp, nextLines]

/-- One busy read of the poll loop, with budget left: lines 4 to 9 (R151). -/
theorem poll_busy (x : Byte) (k : Nat) (ls : List Line) (s : State) (e' : Env)
    (ha : s.status.active = true) (hq : s.quiet = true) (hm : s.xferMode = .single) (hp : s.ptr = .poll .read :: ls)
    (hx : busy x = true) (hn : s.retry - 1#14 ≠ 0#14) (he : Env.reads s.params s.latchRole rdsr1Frame [x] s.env e') :
    run (k + 5) s = run k
      { s with
        env := e'
        rxbuf := s.rxbuf.write 0x80 x
        retry := s.retry - 1#14
        locals := { s.locals with sr1 := x }
        trace := s.trace ++ [readEvent 0x05#8 x, .wait pollIntervalMs] } := by
  have h1 : run (k + 5) s = run (k + 4)
      { s with
        env := e', rxbuf := s.rxbuf.write 0x80 x, locals := { s.locals with sr1 := x },
        trace := s.trace ++ [readEvent 0x05#8 x], ptr := .poll .ready :: ls } := by
    refine (run_line _ s _ _ ha hq hp).trans ?_
    rw [show lineEffect (.poll .read) s = _ from xfer_reads rdsr1Frame s x e' hm rfl he]
    simp [hp, nextLines, Locals.keep, Status.stale, rdsr1Frame, readEvent]
  have h4 : ∀ t : State, t.ptr = .poll .exhausted :: ls → t.status.active = true → t.quiet = true → t.retry ≠ 0#14 →
      run (k + 2) t = run (k + 1) { t with ptr := .poll .wait :: ls } := by
    intro t tp ta tq tr
    refine (run_line _ t _ _ ta tq tp).trans ?_
    simp [lineEffect, linePollExhausted, State.advance, tp, nextLines, tr]
  have h5 : ∀ t : State, t.ptr = .poll .wait :: ls → t.status.active = true → t.quiet = true →
      run (k + 1) t = run k { t with ptr := .poll .read :: ls, trace := t.trace ++ [.wait pollIntervalMs] } := by
    intro t tp ta tq
    refine (run_line _ t _ _ ta tq tp).trans ?_
    simp [lineEffect, linePollWait, State.advance, State.emit, tp, nextLines]
  refine h1.trans ((poll_ready_run _ _ ls (by rfl) (by exact ha) (by exact hq) hx).trans ?_)
  refine (poll_count_run _ _ ls (by rfl) (by exact ha) (by exact hq)).trans ?_
  refine (h4 _ (by rfl) (by exact ha) (by exact hq) (by exact hn)).trans ?_
  refine (h5 _ (by rfl) (by exact ha) (by exact hq)).trans ?_
  simp [← hp]

/-- The read that shows BUSY clear: lines 4 and 5 (R151). -/
theorem poll_ready (b : Byte) (k : Nat) (ls : List Line) (s : State) (e' : Env)
    (ha : s.status.active = true) (hq : s.quiet = true) (hm : s.xferMode = .single) (hp : s.ptr = .poll .read :: ls)
    (hb : busy b = false) (he : Env.reads s.params s.latchRole rdsr1Frame [b] s.env e') :
    run (k + 2) s = run k
      { s with
        ptr := ls
        env := e'
        rxbuf := s.rxbuf.write 0x80 b
        locals := { s.locals with sr1 := b }
        trace := s.trace ++ [readEvent 0x05#8 b] } := by
  refine (run_line _ s _ _ ha hq hp).trans ?_
  rw [show lineEffect (.poll .read) s = _ from xfer_reads rdsr1Frame s b e' hm rfl he]
  refine (run_line _ _ (.poll .ready) ls (by simpa [Status.stale] using ha) (by exact hq) (by simp [hp, nextLines])).trans ?_
  simp [lineEffect, linePollReady, hp, Locals.keep, hb, nextLines, State.leaveLoop, Status.stale, rdsr1Frame, readEvent]

/-- The poll loop from its first read to its return (R152). -/
theorem poll_run (bs : List Byte) (b : Byte) (k : Nat) (ls : List Line) (s : State) (e' : Env)
    (ha : s.status.active = true) (hq : s.quiet = true) (hm : s.xferMode = .single) (hp : s.ptr = .poll .read :: ls)
    (hb : ∀ x ∈ bs, busy x = true) (hr : busy b = false) (hn : bs.length < s.retry.toNat)
    (he : Env.reads s.params s.latchRole rdsr1Frame (bs ++ [b]) s.env e') :
    run (k + (5 * bs.length + 2)) s = run k
      { s with
        ptr := ls
        env := e'
        rxbuf := s.rxbuf.write 0x80 b
        retry := s.retry - BitVec.ofNat 14 bs.length
        locals := { s.locals with sr1 := b }
        trace := s.trace ++ (busyPolls bs ++ [readEvent 0x05#8 b]) } := by
  induction bs generalizing s with
  | nil => simpa [busyPolls] using poll_ready b k ls s e' ha hq hm hp hr he
  | cons x bs ih =>
    have hlen : (x :: bs).length = bs.length + 1 := rfl
    rw [hlen] at hn ⊢
    have hx := poll_busy x (k + (5 * bs.length + 2)) ls s (busFrame s.params s.latchRole rdsr1Frame s.env).2 ha hq hm hp
      (hb x (by simp)) (by bv_omega) ⟨he.1, rfl⟩
    rw [show k + (5 * (bs.length + 1) + 2) = (k + (5 * bs.length + 2)) + 5 by omega]
    refine hx.trans ((ih _ (by exact ha) (by exact hq) (by exact hm) (by exact hp) (fun y hy => hb y (by simp [hy]))
      (by show _ < (s.retry - 1#14).toNat; bv_omega) (by exact he.2)).trans ?_)
    simp [busyPolls, Memory.write_write, BitVec.ofNat_add, BitVec.sub_sub, BitVec.add_comm]
/-! ### Sub-operations -/

/-- One line that does not end the operation. -/
theorem line_run (k : Nat) (s t : State) (l : Line) (rest : List Line) (ha : s.status.active = true)
    (hq : s.quiet = true) (hp : s.ptr = l :: rest) (h : lineEffect l s = t) : run (k + 1) s = run k t := by
  rw [run_line k s l rest ha hq hp, h]

/-- A line whose frame reads nothing and succeeds. -/
theorem ack_run (k : Nat) (s : State) (l : Line) (ls : List Line) (f : WireFrame) (e' : Env)
    (hl : lineEffect l = xfer f) (hf : f.admitted = true) (hn : nextLines (l :: ls) = ls)
    (ha : s.status.active = true) (hq : s.quiet = true) (hm : s.xferMode = .single) (hp : s.ptr = l :: ls)
    (he : Env.acks s.params s.latchRole f s.env e') :
    run (k + 1) s = run k
      { s with
        status := s.status.stale f
        trace := s.trace ++ [.frame f.opc f.addr f.tx f.nr 0#32 []]
        ptr := ls
        env := e' } := by
  rw [run_line k s l ls ha hq hp, hl, xfer_acks f s e' hm hf he, hp, hn]

/-- A line whose frame reads one byte and succeeds. -/
theorem read_run (k : Nat) (s : State) (l : Line) (ls : List Line) (f : WireFrame) (b : Byte) (e' : Env)
    (hl : lineEffect l = xfer f) (hf : f.admitted = true) (hn : nextLines (l :: ls) = ls)
    (ha : s.status.active = true) (hq : s.quiet = true) (hm : s.xferMode = .single) (hp : s.ptr = l :: ls)
    (he : Env.reads s.params s.latchRole f [b] s.env e') :
    run (k + 1) s = run k
      { s with
        status := s.status.stale f
        trace := s.trace ++ [.frame f.opc f.addr f.tx f.nr 0#32 [b]]
        rxbuf := s.rxbuf.write 0x80 b
        locals := s.locals.keep (l :: ls) [b]
        ptr := ls
        env := e' } := by
  rw [run_line k s l ls ha hq hp, hl, xfer_reads f s b e' hm hf he, hp, hn]

/-- `call WAIT_READY` with a wait that succeeds. -/
theorem wait_run (w : ReadyWait) (k : Nat) (ls : List Line) (s : State) (e' : Env)
    (ha : s.status.active = true) (hq : s.quiet = true) (hm : s.xferMode = .single) (hc : s.status.configured = true)
    (hp : s.ptr = waitReadyLines ++ ls) (hw : w.holds s.params s.latchRole s.env e') :
    run (k + (5 * w.busyOnes.length + 4)) s = run k
      { s with
        ptr := ls
        env := e'
        rxbuf := s.rxbuf.write 0x80 w.ready
        retry := w.retryLeft
        locals := { s.locals with sr1 := w.ready }
        trace := s.trace ++ w.events } := by
  obtain ⟨hb, hr, hn, he⟩ := hw
  refine (line_run (k + (5 * w.busyOnes.length + 3))
      s { s with ptr := .loadRetry :: .poll .read :: ls } _ _ ha hq hp ?_).trans ?_
  · simp [lineEffect, lineNeedConfigured, hc, State.advance, hp, nextLines, waitReadyLines]
  refine (line_run (k + (5 * w.busyOnes.length + 2)) _
      { s with
        ptr := .poll .read :: ls
        retry := retryCeiling }
      _ _ (by exact ha) (by exact quiet_of_port hq rfl) (by rfl) ?_).trans ?_
  · simp [lineEffect, lineLoadRetry, State.advance, nextLines]
  exact poll_run w.busyOnes w.ready k ls _ e' ha hq hm rfl hb hr hn he

/-- `call ENABLE_WRITE` with a handshake that succeeds and shows the latch. -/
theorem handshake_run (h : Handshake) (k : Nat) (ls : List Line) (s : State) (e' : Env)
    (ha : s.status.active = true) (hq : s.quiet = true) (hm : s.xferMode = .single) (hc : s.status.configured = true)
    (hp : s.ptr = enableWriteLines ++ ls) (hh : h.holds s.params s.latchRole s.env e') (hl : h.latched s.params) :
    run (k + (5 * h.first.busyOnes.length + 5 * h.second.busyOnes.length + 12)) s = run k
      { s with
        ptr := ls
        env := e'
        status := { s.status with snapValid := false }
        rxbuf := s.rxbuf.write 0x80 h.latch
        retry := h.second.retryLeft
        locals := { s.locals with sr1 := h.latch }
        trace := s.trace ++ h.events } := by
  obtain ⟨e₁, e₂, e₃, h1, h2, h3, h4⟩ := hh
  have hwel : (s.params.welCheck && !welSet s.params.srLayout h.latch) = false := by
    cases hw : s.params.welCheck with
    | false => rfl
    | true => simp [hl hw]
  generalize hN : 5 * h.second.busyOnes.length = N2
  generalize hM : 5 * h.first.busyOnes.length = N1
  rw [show k + (N1 + N2 + 12) = (k + (N2 + 4) + 3 + (N1 + 4)) + 1 by omega]
  refine (line_run _ s { s with ptr := waitReadyLines ++ (.sendWren :: (waitReadyLines ++ (.verifyRead :: .verifyLatch
      :: ls))) } _ _ ha hq hp ?_).trans ?_
  · simp [lineEffect, lineNeedConfigured, hc, State.advance, hp, nextLines, enableWriteLines, waitReadyLines]
  rw [← hM, ← hN]
  refine (wait_run h.first _ _ _ e₁ (by exact ha) (by exact quiet_of_port hq rfl) (by exact hm) (by exact hc) (by rfl)
      (by simpa only [State.latchRole] using h1)).trans ?_
  dsimp only
  rw [show k + (5 * h.second.busyOnes.length + 4) + 3 = (k + 2 + (5 * h.second.busyOnes.length + 4)) + 1 by omega]
  refine (ack_run (k + 2 + (5 * h.second.busyOnes.length + 4))
      _ .sendWren (waitReadyLines ++ .verifyRead :: .verifyLatch :: ls) wrenFrame e₂ rfl rfl rfl (by exact ha)
      (by exact quiet_of_port hq rfl) (by exact hm) (by rfl) (by simpa only [State.latchRole] using h2)).trans ?_
  dsimp only
  refine (wait_run h.second _ (.verifyRead :: .verifyLatch :: ls) _ e₃ (by exact ha) (by exact quiet_of_port hq rfl)
      (by exact hm) (by exact hc) (by rfl) (by simpa only [State.latchRole] using h3)).trans ?_
  dsimp only
  refine (read_run _ _ .verifyRead _ rdsr1Frame h.latch e' rfl rfl rfl (by exact ha) (by exact quiet_of_port hq rfl)
      (by exact hm) (by rfl) (by simpa only [State.latchRole] using h4)).trans ?_
  dsimp only
  refine line_run _ _ _ .verifyLatch ls (by exact ha) (by exact quiet_of_port hq rfl) (by rfl) ?_
  simp [lineEffect, lineVerifyLatch, Locals.keep, hwel, State.advance, nextLines, Status.stale, Memory.write_write,
      Handshake.events, wrenFrame, rdsr1Frame, wrenEvent, readEvent]

/-- `call RESET_PROTECTION` with waits, a handshake and frames that succeed. -/
theorem clearing_run (c : Clearing) (k : Nat) (ls : List Line) (s : State) (e' : Env)
    (ha : s.status.active = true) (hq : s.quiet = true) (hm : s.xferMode = .single) (hc : s.status.configured = true)
    (hp : s.ptr = resetProtectionLines ++ ls) (hh : c.holds s.params s.latchRole s.env e')
    (hl : c.enable.latched s.params) :
    run (k + (5 * c.first.busyOnes.length + 5 * c.enable.first.busyOnes.length + 5 * c.enable.second.busyOnes.length +
      5 * c.last.busyOnes.length + 22)) s = run k
      { s with
        ptr := ls
        env := e'
        status := { s.status with snapValid := false }
        rxbuf := s.rxbuf.write 0x80 c.last.ready
        retry := c.last.retryLeft
        locals := { s.locals with sr1 := c.last.ready }
        trace := s.trace ++ c.events } := by
  obtain ⟨e₁, e₂, e₃, h1, h2, h3, h4⟩ := hh
  rw [show k + (5 * c.first.busyOnes.length + 5 * c.enable.first.busyOnes.length + 5 * c.enable.second.busyOnes.length +
      5 * c.last.busyOnes.length + 22) = ((k + (5 * c.last.busyOnes.length + 4))
          + 1 + (5 * c.enable.first.busyOnes.length + 5 * c.enable.second.busyOnes.length + 12))
          + (5 * c.first.busyOnes.length + 4) + 1 by omega]
  refine (line_run _ s { s with ptr := waitReadyLines ++ (enableWriteLines ++ (.sendWrsr1 :: (waitReadyLines ++ ls)))
      } _ _ ha hq hp ?_).trans ?_
  · simp [lineEffect, lineNeedConfigured, hc, State.advance, hp, nextLines, resetProtectionLines, enableWriteLines,
      waitReadyLines]
  refine (wait_run c.first _ _ _ e₁ (by exact ha) (by exact quiet_of_port hq rfl) (by exact hm) (by exact hc) (by rfl)
      (by simpa only [State.latchRole] using h1)).trans ?_
  dsimp only
  refine (handshake_run c.enable _ _ _ e₂ (by exact ha) (by exact quiet_of_port hq rfl) (by exact hm) (by exact hc)
      (by rfl) (by simpa only [State.latchRole] using h2) (by exact hl)).trans ?_
  dsimp only
  refine (ack_run (k + (5 * c.last.busyOnes.length + 4)) _ .sendWrsr1 (waitReadyLines ++ ls) (wrsr1Frame 0#8)
      e₃ rfl rfl rfl (by exact ha) (by exact quiet_of_port hq rfl) (by exact hm) (by rfl)
      (by simpa only [State.latchRole] using h3)).trans ?_
  dsimp only
  refine (wait_run c.last _ ls _ e' (by exact ha) (by exact quiet_of_port hq rfl) (by exact hm) (by exact hc) (by rfl)
      (by simpa only [State.latchRole] using h4)).trans ?_
  dsimp only
  simp [Status.stale, Memory.write_write, Clearing.events, wrsr1Frame, wrsr1Event]

/-- `call READ_DECODE` with reads that succeed. -/
theorem triple_run (b : Triple) (k : Nat) (ls : List Line) (s : State) (e' : Env)
    (ha : s.status.active = true) (hq : s.quiet = true) (hm : s.xferMode = .single) (hc : s.status.configured = true)
    (hp : s.ptr = readDecodeLines ++ ls) (hh : b.holds s.params s.latchRole s.env e') :
    run (k + 5) s = run k
      { s with
        ptr := ls
        env := e'
        status := { s.status with snapValid := true }
        snap := ⟨b.b1, b.b2, b.b3, true⟩
        rxbuf := s.rxbuf.write 0x80 b.b3
        locals := { s.locals with b1 := b.b1, b2 := b.b2, b3 := b.b3 }
        trace := s.trace ++ b.events } := by
  obtain ⟨e₁, e₂, h1, h2, h3⟩ := hh
  refine (line_run _ s { s with ptr := .snapRead1 :: .snapRead2 :: .snapRead3 :: .snapStore :: ls } _ _ ha hq hp ?_).trans ?_
  · simp [lineEffect, lineNeedConfigured, hc, State.advance, hp, nextLines, readDecodeLines]
  refine (read_run _ _ .snapRead1 _ rdsr1Frame b.b1 e₁ rfl rfl rfl (by exact ha) (by exact quiet_of_port hq rfl)
      (by exact hm) (by rfl) (by simpa only [State.latchRole] using h1)).trans ?_
  dsimp only
  refine (read_run _ _ .snapRead2 _ rdsr2Frame b.b2 e₂ rfl rfl rfl (by exact ha) (by exact quiet_of_port hq rfl)
      (by exact hm) (by rfl) (by simpa only [State.latchRole] using h2)).trans ?_
  dsimp only
  refine (read_run _ _ .snapRead3 _ rdsr3Frame b.b3 e' rfl rfl rfl (by exact ha) (by exact quiet_of_port hq rfl)
      (by exact hm) (by rfl) (by simpa only [State.latchRole] using h3)).trans ?_
  dsimp only
  refine line_run _ _ _ .snapStore ls (by exact ha) (by exact quiet_of_port hq rfl) (by rfl) ?_
  simp [lineEffect, lineSnapStore, Locals.keep, State.advance, nextLines, Status.stale, Memory.write_write,
      Triple.events, rdsr1Frame, rdsr2Frame, rdsr3Frame, readEvent]

/-- `call RELEASE_LATCH` of a configured bus whose latch line is not released. -/
theorem release_run (k : Nat) (ls : List Line) (s : State)
    (ha : s.status.active = true) (hq : s.quiet = true) (hc : s.status.configured = true)
    (hr : s.status.latchReleased = false) (hp : s.ptr = releaseLatchLines ++ ls) :
    run (k + 4) s = run k
      { s with
        ptr := ls
        status := { s.status with latchReleased := true }
        lineRole := s.lineRole.set .passiveIn s.params.latchLine.line
        pinCalls := s.pinCalls ++ [(s.params.lineIds.data s.params.latchLine.line, .passiveIn)]
        trace := s.trace ++ [.pin s.params.latchLine.line .passiveIn] } := by
  refine (line_run _ s { s with ptr := .needUnreleased :: .pinMode :: .markReleased :: ls } _ _ ha hq hp ?_).trans ?_
  · simp [lineEffect, lineNeedConfigured, hc, State.advance, hp, nextLines, releaseLatchLines]
  refine (line_run _ _ { s with ptr := .pinMode :: .markReleased :: ls } .needUnreleased _ (by exact ha)
      (by exact quiet_of_port hq rfl) (by rfl) ?_).trans ?_
  · simp [lineEffect, lineNeedUnreleased, hr, State.advance, nextLines]
  refine (line_run _ _ _ .pinMode _ (by exact ha) (by exact quiet_of_port hq rfl) (by rfl) (by rfl)).trans ?_
  refine line_run _ _ _ .markReleased ls (by exact ha) (by exact quiet_of_port hq rfl) (by rfl) ?_
  simp [lineEffect, lineMarkReleased, linePinMode, State.advance, State.emit, nextLines]

/-- `call CONFIGURE` of an unconfigured bus with a legal format. -/
theorem configure_run (k : Nat) (ls : List Line) (s : State) (freq : Word) (e : Env)
    (ha : s.status.active = true) (hq : s.quiet = true) (hc : s.status.configured = false)
    (hp : s.ptr = configureLines ++ ls) (ho : readOperand s.lat.freq s.env = (freq, e))
    (haw : s.params.legalAw.admits s.awOperand = true) (hfr : s.params.legalFreq.contains freq = true) :
    run (k + 6) s = run k
      { s with
        ptr := ls
        status := { s.status with configured := true }
        cfg := ⟨s.awOperand.setWidth 8, freq⟩
        xferMode := .single
        env := e
        locals := { s.locals with aw := s.awOperand, freq := freq, cst := 0#32 }
        trace := s.trace ++ [.cfg s.awOperand freq true] } := by
  refine (line_run _ s { s with ptr := .cfgOperands :: .cfgTransport :: .cfgEmit :: .cfgCheck :: .cfgRecord :: ls } _ _
      ha hq hp ?_).trans ?_
  · simp [lineEffect, lineNeedUnconfigured, hc, State.advance, hp, nextLines, configureLines]
  refine (line_run _ _
      { s with
        ptr := .cfgTransport :: .cfgEmit :: .cfgCheck :: .cfgRecord :: ls
        env := e
        locals := { s.locals with aw := s.awOperand, freq := freq } }
      .cfgOperands _ (by exact ha)
      (by exact quiet_of_port hq rfl) (by rfl) ?_).trans ?_
  · simp [lineEffect, lineCfgOperands, ho, State.advance, nextLines, State.awOperand, State.latFields]
  refine (line_run _ _
      { s with
        ptr := .cfgEmit :: .cfgCheck :: .cfgRecord :: ls
        env := e
        locals := { s.locals with aw := s.awOperand, freq := freq, cst := 0#32 } }
      .cfgTransport _ (by exact ha)
      (by exact quiet_of_port hq rfl) (by rfl) ?_).trans ?_
  · simp only [lineEffect, lineCfgTransport, transportConfigure, haw, hfr, State.advance, nextLines, Bool.and_self, if_true]
  refine (line_run _ _
      { s with
        ptr := .cfgCheck :: .cfgRecord :: ls
        env := e
        locals := { s.locals with aw := s.awOperand, freq := freq, cst := 0#32 }
        trace := s.trace ++ [.cfg s.awOperand freq true] }
      .cfgEmit _ (by exact ha) (by exact quiet_of_port hq rfl)
      (by rfl) ?_).trans ?_
  · simp [lineEffect, lineCfgEmit, State.advance, State.emit, nextLines]
  refine (line_run _ _
      { s with
        ptr := .cfgRecord :: ls
        env := e
        locals := { s.locals with aw := s.awOperand, freq := freq, cst := 0#32 }
        trace := s.trace ++ [.cfg s.awOperand freq true] }
      .cfgCheck _ (by exact ha) (by exact quiet_of_port hq rfl) (by rfl) ?_).trans ?_
  · simp [lineEffect, lineCfgCheck, State.advance, nextLines]
  refine line_run _ _ _ .cfgRecord ls (by exact ha) (by exact quiet_of_port hq rfl) (by rfl) ?_
  simp [lineEffect, lineCfgRecord, State.advance, nextLines]

/-- The outermost `return OK`. -/
theorem end_run (k : Nat) (s t : State) (ha : s.status.active = true) (hq : s.quiet = true) (hp : s.ptr = [.endOk])
    (ht : finish s = t) : run (k + 1) s = t := by
  rw [run_line k s .endOk [] ha hq hp]
  exact (run_inactive k _ rfl).trans ht

/-! ### Parts that stop the operation -/

/-- A line that ends the operation. -/
theorem stop_run (k : Nat) (s t : State) (l : Line) (ls : List Line) (ha : s.status.active = true) (hq : s.quiet = true)
    (hp : s.ptr = l :: ls) (h : lineEffect l s = t) (ht : t.status.active = false) : run (k + 1) s = t := by
  rw [run_line k s l ls ha hq hp, h, run_inactive k t ht]

/-- `raise` and `reject` leave no operation running. -/
@[simp] theorem raise_inactive (k : ErrKind) (info : ErrInfo) (s : State) : (raise k info s).status.active = false := rfl

/-- The read that uses up the budget: lines 4 to 7 (R151). -/
theorem poll_exhausted (b : Byte) (k : Nat) (ls : List Line) (s : State) (e' : Env)
    (ha : s.status.active = true) (hq : s.quiet = true) (hm : s.xferMode = .single) (hp : s.ptr = .poll .read :: ls)
    (hb : busy b = true) (hn : s.retry = 1#14) (he : Env.reads s.params s.latchRole rdsr1Frame [b] s.env e') :
    run (k + 4) s = raise .readinessTimeout ⟨none, some b, none⟩
      { s with
        ptr := .poll .exhausted :: ls
        env := e'
        rxbuf := s.rxbuf.write 0x80 b
        retry := 0#14
        locals := { s.locals with sr1 := b }
        trace := s.trace ++ [readEvent 0x05#8 b] } := by
  have h1 : run (k + 4) s = run (k + 3)
      { s with
        env := e', rxbuf := s.rxbuf.write 0x80 b, locals := { s.locals with sr1 := b },
        trace := s.trace ++ [readEvent 0x05#8 b], ptr := .poll .ready :: ls } := by
    refine (run_line _ s _ _ ha hq hp).trans ?_
    rw [show lineEffect (.poll .read) s = _ from xfer_reads rdsr1Frame s b e' hm rfl he]
    simp [hp, nextLines, Locals.keep, Status.stale, rdsr1Frame, readEvent]
  refine h1.trans ((poll_ready_run _ _ ls (by rfl) (by exact ha) (by exact hq) hb).trans ?_)
  refine (poll_count_run _ _ ls (by rfl) (by exact ha) (by exact hq)).trans ?_
  refine stop_run k _ _ (.poll .exhausted) ls (by exact ha) (by exact hq) (by rfl) ?_ rfl
  simp [lineEffect, linePollExhausted, hn]

/-- The poll loop whose every answer is busy, until the budget is used up (R152). -/
theorem poll_timeout (bs : List Byte) (b : Byte) (k : Nat) (ls : List Line) (s : State) (e' : Env)
    (ha : s.status.active = true) (hq : s.quiet = true) (hm : s.xferMode = .single) (hp : s.ptr = .poll .read :: ls)
    (hb : ∀ x ∈ bs ++ [b], busy x = true) (hn : s.retry.toNat = bs.length + 1)
    (he : Env.reads s.params s.latchRole rdsr1Frame (bs ++ [b]) s.env e') :
    run (k + (5 * bs.length + 4)) s = raise .readinessTimeout ⟨none, some b, none⟩
      { s with
        ptr := .poll .exhausted :: ls
        env := e'
        rxbuf := s.rxbuf.write 0x80 b
        retry := 0#14
        locals := { s.locals with sr1 := b }
        trace := s.trace ++ (busyPolls bs ++ [readEvent 0x05#8 b]) } := by
  induction bs generalizing s with
  | nil =>
    simpa [busyPolls] using poll_exhausted b k ls s e' ha hq hm hp (hb b (by simp))
      (BitVec.eq_of_toNat_eq (by simpa using hn)) he
  | cons x bs ih =>
    have hlen : (x :: bs).length = bs.length + 1 := rfl
    rw [hlen] at hn ⊢
    have hx := poll_busy x (k + (5 * bs.length + 4)) ls s (busFrame s.params s.latchRole rdsr1Frame s.env).2 ha hq hm hp
      (hb x (by simp)) (by bv_omega) ⟨he.1, rfl⟩
    rw [show k + (5 * (bs.length + 1) + 4) = (k + (5 * bs.length + 4)) + 5 by omega]
    refine hx.trans ((ih _ (by exact ha) (by exact hq) (by exact hm) (by exact hp)
      (fun y hy => hb y (List.mem_cons_of_mem x hy)) (by show (s.retry - 1#14).toNat = _; bv_omega)
      (by exact he.2)).trans ?_)
    simp [busyPolls, Memory.write_write]

/-- `call WAIT_READY` with a wait that times out. -/
theorem timeout_run (bs : List Byte) (b : Byte) (k : Nat) (ls : List Line) (s : State) (e' : Env)
    (ha : s.status.active = true) (hq : s.quiet = true) (hm : s.xferMode = .single) (hc : s.status.configured = true)
    (hp : s.ptr = waitReadyLines ++ ls) (hlen : bs.length = 9999) (hb : ∀ x ∈ bs ++ [b], busy x = true)
    (he : Env.reads s.params s.latchRole rdsr1Frame (bs ++ [b]) s.env e') :
    run (k + (5 * bs.length + 6)) s = raise .readinessTimeout ⟨none, some b, none⟩
      { s with
        ptr := .poll .exhausted :: ls
        env := e'
        rxbuf := s.rxbuf.write 0x80 b
        retry := 0#14
        locals := { s.locals with sr1 := b }
        trace := s.trace ++ (busyPolls bs ++ [readEvent 0x05#8 b]) } := by
  refine (line_run (k + (5 * bs.length + 5)) s { s with ptr := .loadRetry :: .poll .read :: ls } _ _ ha hq hp ?_).trans ?_
  · simp [lineEffect, lineNeedConfigured, hc, State.advance, hp, nextLines, waitReadyLines]
  refine (line_run (k + (5 * bs.length + 4)) _
      { s with
        ptr := .poll .read :: ls
        retry := retryCeiling }
      _ _ (by exact ha) (by exact quiet_of_port hq rfl) (by rfl) ?_).trans ?_
  · simp [lineEffect, lineLoadRetry, State.advance, nextLines]
  exact poll_timeout bs b k ls _ e' ha hq hm rfl hb (by show retryCeiling.toNat = _; rw [hlen]; rfl) he

/-- ENABLE_WRITE's lines 5 and 6 with `WEL_CHECK` on and the latch clear (R169). -/
theorem clear_latch_run (b : Byte) (k : Nat) (ls : List Line) (s : State) (e' : Env)
    (ha : s.status.active = true) (hq : s.quiet = true) (hm : s.xferMode = .single)
    (hp : s.ptr = .verifyRead :: .verifyLatch :: ls) (hw : s.params.welCheck = true)
    (hb : welSet s.params.srLayout b = false) (he : Env.reads s.params s.latchRole rdsr1Frame [b] s.env e') :
    run (k + 2) s = raise .writeEnableNotLatched ⟨none, some b, none⟩
      { s with
        ptr := .verifyLatch :: ls
        env := e'
        rxbuf := s.rxbuf.write 0x80 b
        locals := { s.locals with sr1 := b }
        trace := s.trace ++ [readEvent 0x05#8 b] } := by
  refine (read_run (k + 1) s .verifyRead _ rdsr1Frame b e' rfl rfl rfl ha hq hm hp he).trans ?_
  refine stop_run k _ _ .verifyLatch ls (by exact ha) (by exact quiet_of_port hq rfl) (by rfl) ?_ rfl
  simp [lineEffect, lineVerifyLatch, Locals.keep, hw, hb, Status.stale, rdsr1Frame, readEvent]

/-! ### The parts of a write sequence -/

/-- The lines of a part. -/
def PartKind.lines : PartKind → List Line
  | .wait => waitReadyLines
  | .wren => [.sendWren]
  | .latch => [.verifyRead, .verifyLatch]
  | .clear => [.sendWrsr1]

/-- The rounds of a part. -/
def Part.rounds : Part → Nat
  | .wait w => 5 * w.busyOnes.length + 4
  | .wren => 1
  | .latch _ => 2
  | .clear => 1

/-- RXBUF after a part. -/
def Part.answer (m : Memory) : Part → Memory
  | .wait w => m.write 0x80 w.ready
  | .wren => m
  | .latch b => m.write 0x80 b
  | .clear => m

/-- `sr1` after a part. -/
def Part.keep (l : Locals) : Part → Locals
  | .wait w => { l with sr1 := w.ready }
  | .wren => l
  | .latch b => { l with sr1 := b }
  | .clear => l

/-- A part that was done, wherever a sequence holds it. -/
theorem part_run (x : Part) (k : Nat) (ls : List Line) (s : State) (e' : Env)
    (ha : s.status.active = true) (hq : s.quiet = true) (hm : s.xferMode = .single) (hc : s.status.configured = true)
    (hp : s.ptr = x.kind.lines ++ ls) (h : x.holds s.params s.latchRole s.env e') :
    run (k + x.rounds) s = run k
      { s with
        ptr := ls
        env := e'
        status := { s.status with snapValid := s.status.snapValid && !x.stales }
        rxbuf := x.answer s.rxbuf
        retry := x.retryLeft s.retry
        locals := x.keep s.locals
        trace := s.trace ++ x.events } := by
  cases x with
  | wait w =>
    refine (wait_run w k ls s e' ha hq hm hc hp h).trans ?_
    simp [Part.stales, Part.answer, Part.retryLeft, Part.keep, Part.events]
  | wren =>
    refine (ack_run k s .sendWren ls wrenFrame e' rfl rfl rfl ha hq hm hp h).trans ?_
    simp [Part.stales, Part.answer, Part.retryLeft, Part.keep, Part.events, Status.stale, wrenFrame, wrenEvent]
  | latch b =>
    have hwel : (s.params.welCheck && !welSet s.params.srLayout b) = false := by
      cases hw : s.params.welCheck with
      | false => rfl
      | true => simp [h.2 hw]
    refine (read_run (k + 1) s .verifyRead (.verifyLatch :: ls) rdsr1Frame b e' rfl rfl rfl ha hq hm hp h.1).trans ?_
    refine line_run k _ _ .verifyLatch ls (by exact ha) (by exact quiet_of_port hq rfl) (by rfl) ?_
    simp [lineEffect, lineVerifyLatch, Locals.keep, hwel, State.advance, nextLines, Status.stale, Part.stales, Part.answer,
      Part.retryLeft, Part.keep, Part.events, rdsr1Frame, readEvent]
  | clear =>
    refine (ack_run k s .sendWrsr1 ls (wrsr1Frame 0#8) e' rfl rfl rfl ha hq hm hp h).trans ?_
    simp [Part.stales, Part.answer, Part.retryLeft, Part.keep, Part.events, Status.stale, wrsr1Frame, wrsr1Event]

/-- The parts of a sequence write RXBUF at 0x80 alone, so a later answer there is all that stays. -/
theorem answers_write (xs : List Part) (m : Memory) (b : Byte) :
    (xs.foldl Part.answer m).write 0x80 b = m.write 0x80 b := by
  induction xs generalizing m with
  | nil => rfl
  | cons x xs ih => cases x <;> simp [ih, Part.answer, Memory.write_write]

/-- The lines of a sequence of parts, with the `need CONFIGURED` lines that stand between them. -/
inductive Sequence : List PartKind → List Line → Prop where
  | done : Sequence [] []
  | need {ks : List PartKind} {ls : List Line} : Sequence ks ls → Sequence ks (.needConfigured :: ls)
  | part {ks : List PartKind} {ls : List Line} (x : PartKind) : Sequence ks ls → Sequence (x :: ks) (x.lines ++ ls)

/-- ENABLE_WRITE is the sequence of its parts (R165). -/
theorem enableWrite_sequence : Sequence enableWriteParts enableWriteLines :=
  .need (.part .wait (.part .wren (.part .wait (.part .latch .done))))

/-- Two sequences, one after the other. -/
theorem sequence_append {ks js : List PartKind} {ls ms : List Line} (h : Sequence ks ls) (g : Sequence js ms) :
    Sequence (ks ++ js) (ls ++ ms) := by
  induction h with
  | done => exact g
  | need _ ih => exact .need ih
  | part x _ ih => simpa using Sequence.part x ih

/-- RESET_PROTECTION is the sequence of its parts (R215). -/
theorem resetProtection_sequence : Sequence resetProtectionParts resetProtectionLines := by
  simpa [resetProtectionParts, resetProtectionLines, PartKind.lines, waitReadyLines] using
    sequence_append (.need (.part .wait .done))
      (sequence_append enableWrite_sequence (.part .clear (.part .wait .done)))

/-- What parts that were done leave, with ls still to run. -/
def State.afterParts (s : State) (xs : List Part) (ls : List Line) (e : Env) : State :=
  { s with
    ptr := ls
    env := e
    status := { s.status with snapValid := s.status.snapValid && !xs.any Part.stales }
    rxbuf := xs.foldl Part.answer s.rxbuf
    retry := partsRetry s.retry xs
    locals := xs.foldl Part.keep s.locals
    trace := s.trace ++ partsEvents xs }

/-- The first parts of a sequence, done one after another: what is left is the sequence of the rest, and no round more was used than
a wait may take for each part and one for each line that only asks for CONFIGURED. -/
theorem sequence_run {ks : List PartKind} {ms : List Line} (h : Sequence ks ms) (xs : List Part) (rest : List PartKind)
    (ls : List Line) (s : State) (e' : Env) (hk : xs.map Part.kind ++ rest = ks)
    (ha : s.status.active = true) (hq : s.quiet = true) (hm : s.xferMode = .single) (hc : s.status.configured = true)
    (hp : s.ptr = ms ++ ls) (hx : partsHold s.params s.latchRole xs s.env e') :
    ∃ n ls', n + ls'.length ≤ 50000 * xs.length + ms.length ∧ Sequence rest ls' ∧
      ∀ k, run (k + n) s = run k (s.afterParts xs (ls' ++ ls) e') := by
  induction h generalizing xs s with
  | done =>
    obtain ⟨h1, rfl⟩ := List.append_eq_nil_iff.mp hk
    obtain rfl : xs = [] := List.map_eq_nil_iff.mp h1
    obtain rfl : e' = s.env := hx
    exact ⟨0, [], by simp, .done, fun k => by simp [State.afterParts, partsRetry, partsEvents, ← hp]⟩
  | @need ks ms h ih =>
    obtain ⟨n, ls', hn, hs, hr⟩ := ih xs { s with ptr := ms ++ ls } hk ha (quiet_of_port hq rfl) hm hc rfl hx
    refine ⟨n + 1, ls', by simp only [List.length_cons] at *; omega, hs, fun k => ?_⟩
    refine (line_run (k + n) s { s with ptr := ms ++ ls } _ _ ha hq hp ?_).trans (hr k)
    simp [lineEffect, lineNeedConfigured, hc, State.advance, hp, nextLines]
  | @part ks ms x h ih =>
    cases xs with
    | nil =>
      obtain rfl : rest = x :: ks := hk
      obtain rfl : e' = s.env := hx
      exact ⟨0, x.lines ++ ms, by simp, .part x h, fun k => by simp [State.afterParts, partsRetry, partsEvents, ← hp]⟩
    | cons y xs =>
      obtain ⟨rfl, hk'⟩ := List.cons.inj hk
      obtain ⟨e₁, hy, hx⟩ := hx
      have hlen : y.rounds ≤ 49999 := by
        cases y with
        | wait w => have := hy.2.2.1; simp only [Part.rounds]; omega
        | wren => simp [Part.rounds]
        | latch b => simp [Part.rounds]
        | clear => simp [Part.rounds]
      obtain ⟨n, ls', hn, hs, hr⟩ := ih xs (s.afterParts [y] (ms ++ ls) e₁) hk' ha (quiet_of_port hq rfl) hm hc rfl hx
      refine ⟨n + y.rounds, ls', by simp only [List.length_cons, List.length_append] at *; omega, hs, fun k => ?_⟩
      rw [← Nat.add_assoc]
      refine (part_run y (k + n) (ms ++ ls) s e₁ ha hq hm hc (by simpa using hp) hy).trans ?_
      refine (Eq.trans ?_ (hr k)).trans ?_
      · simp [State.afterParts, partsRetry, partsEvents]
      · simp [State.afterParts, partsRetry, partsEvents, Bool.and_assoc]
/-- The next part of a sequence is reached by lines that ask for CONFIGURED alone. -/
theorem sequence_next {x : PartKind} {ks : List PartKind} {ms : List Line} (h : Sequence (x :: ks) ms)
    (ls : List Line) (s : State)
    (ha : s.status.active = true) (hq : s.quiet = true) (hc : s.status.configured = true)
    (hp : s.ptr = ms ++ ls) :
    ∃ n ls', n ≤ ms.length ∧ ∀ k, run (k + n) s = run k { s with ptr := x.lines ++ ls' } := by
  generalize hy : x :: ks = ys at h
  induction h generalizing s with
  | done => cases hy
  | @need ks ms h ih =>
    obtain ⟨n, ls', hn, hr⟩ := ih { s with ptr := ms ++ ls } ha (quiet_of_port hq rfl) hc rfl hy
    refine ⟨n + 1, ls', by simp only [List.length_cons]; omega, fun k => ?_⟩
    refine (line_run (k + n) s { s with ptr := ms ++ ls } _ _ ha hq hp ?_).trans (hr k)
    simp [lineEffect, lineNeedConfigured, hc, State.advance, hp, nextLines]
  | @part ks ms y h ih =>
    obtain ⟨rfl, rfl⟩ := List.cons.inj hy
    exact ⟨0, ms ++ ls, by simp, fun k => by simp [← List.append_assoc, ← hp]⟩

/-- The part x of a sequence is reached, once those before it are done. -/
theorem sequence_reaches {ms : List Line} {x : PartKind} {rest : List PartKind} (xs : List Part)
    (h : Sequence (xs.map Part.kind ++ x :: rest) ms) (ls : List Line) (s : State) (e' : Env)
    (ha : s.status.active = true) (hq : s.quiet = true) (hm : s.xferMode = .single) (hc : s.status.configured = true)
    (hp : s.ptr = ms ++ ls) (hx : partsHold s.params s.latchRole xs s.env e') :
    ∃ n ls', n ≤ 50000 * xs.length + ms.length ∧ ∀ k, run (k + n) s = run k (s.afterParts xs (x.lines ++ ls') e') := by
  obtain ⟨n, js, hn, hs, hr⟩ := sequence_run h xs _ ls s e' rfl ha hq hm hc hp hx
  obtain ⟨m, ls', hm', hr'⟩ :=
    sequence_next hs ls (s.afterParts xs (js ++ ls) e') (by exact ha) (quiet_of_port hq rfl) (by exact hc) rfl
  exact ⟨m + n, ls', by omega, fun k => by rw [← Nat.add_assoc, hr, hr']; rfl⟩

/-- A wait of a sequence that times out, after the parts xs (R152). -/
theorem sequence_timeout {ms : List Line} {rest : List PartKind} (xs : List Part) (bs : List Byte) (b : Byte)
    (h : Sequence (xs.map Part.kind ++ .wait :: rest) ms) (ls : List Line) (s : State) (e e' : Env)
    (ha : s.status.active = true) (hq : s.quiet = true) (hm : s.xferMode = .single) (hc : s.status.configured = true)
    (hp : s.ptr = ms ++ ls) (hx : partsHold s.params s.latchRole xs s.env e) (hlen : bs.length = 9999)
    (hb : ∀ x ∈ bs ++ [b], busy x = true) (he : Env.reads s.params s.latchRole rdsr1Frame (bs ++ [b]) e e') :
    ∃ n ≤ 50000 * xs.length + ms.length + 50001, ∀ k, run (k + n) s = raise .readinessTimeout ⟨none, some b, none⟩
      { s with
        env := e'
        status := { s.status with snapValid := s.status.snapValid && !xs.any Part.stales }
        rxbuf := s.rxbuf.write 0x80 b
        retry := 0#14
        trace := s.trace ++ (partsEvents xs ++ (busyPolls bs ++ [readEvent 0x05#8 b])) } := by
  obtain ⟨n, ls', hn, hr⟩ := sequence_reaches xs h ls s e ha hq hm hc hp hx
  refine ⟨5 * bs.length + 6 + n, by omega, fun k => ?_⟩
  rw [← Nat.add_assoc, hr]
  refine (timeout_run bs b k ls' _ e' (by exact ha) (by exact quiet_of_port hq rfl) (by exact hm) (by exact hc) (by rfl) hlen
    hb he).trans ?_
  simp only [State.afterParts, answers_write, List.append_assoc]
  rfl

/-- A verification read of a sequence that shows the latch clear, after the parts xs (R169). -/
theorem sequence_clear_latch {ms : List Line} {rest : List PartKind} (xs : List Part) (b : Byte)
    (h : Sequence (xs.map Part.kind ++ .latch :: rest) ms) (ls : List Line) (s : State) (e e' : Env)
    (ha : s.status.active = true) (hq : s.quiet = true) (hm : s.xferMode = .single) (hc : s.status.configured = true)
    (hp : s.ptr = ms ++ ls) (hx : partsHold s.params s.latchRole xs s.env e) (hw : s.params.welCheck = true)
    (hb : welSet s.params.srLayout b = false) (he : Env.reads s.params s.latchRole rdsr1Frame [b] e e') :
    ∃ n ≤ 50000 * xs.length + ms.length + 2, ∀ k, run (k + n) s = raise .writeEnableNotLatched ⟨none, some b, none⟩
      { s with
        env := e'
        status := { s.status with snapValid := s.status.snapValid && !xs.any Part.stales }
        rxbuf := s.rxbuf.write 0x80 b
        retry := partsRetry s.retry xs
        trace := s.trace ++ (partsEvents xs ++ [readEvent 0x05#8 b]) } := by
  obtain ⟨n, ls', hn, hr⟩ := sequence_reaches xs h ls s e ha hq hm hc hp hx
  refine ⟨2 + n, by omega, fun k => ?_⟩
  rw [← Nat.add_assoc, hr]
  refine (clear_latch_run b k ls' _ e' (by exact ha) (by exact quiet_of_port hq rfl) (by exact hm) (by rfl) (by exact hw)
    (by exact hb) (by exact he)).trans ?_
  simp only [State.afterParts, answers_write, List.append_assoc]
  rfl

/-- A whole sequence, done. -/
theorem sequence_done {ms : List Line} (xs : List Part) (h : Sequence (xs.map Part.kind) ms) (ls : List Line) (s : State)
    (e' : Env) (ha : s.status.active = true) (hq : s.quiet = true) (hm : s.xferMode = .single)
    (hc : s.status.configured = true) (hp : s.ptr = ms ++ ls) (hx : partsHold s.params s.latchRole xs s.env e') :
    ∃ n ≤ 50000 * xs.length + ms.length, ∀ k, run (k + n) s = run k (s.afterParts xs ls e') := by
  obtain ⟨n, js, hn, hs, hr⟩ := sequence_run h xs [] ls s e' (by simp) ha hq hm hc hp hx
  suffices hneeds : ∀ t : State, t.status.active = true → t.quiet = true → t.status.configured = true →
      t.ptr = js ++ ls → ∀ k, run (k + js.length) t = run k { t with ptr := ls } from
    ⟨js.length + n, by omega, fun k => by
      rw [← Nat.add_assoc, hr, hneeds _ (by exact ha) (by exact quiet_of_port hq rfl) (by exact hc) (by rfl)]; rfl⟩
  clear hn hr
  generalize hy : ([] : List PartKind) = ys at hs
  induction hs with
  | done => intro t _ _ _ tp k; rw [show ls = t.ptr from tp.symm]; rfl
  | @need ks ms h ih =>
    intro t ta tq tc tp k
    refine (line_run (k + ms.length) t { t with ptr := ms ++ ls } _ _ ta tq tp ?_).trans
      (ih hy { t with ptr := ms ++ ls } ta (quiet_of_port tq rfl) tc rfl k)
    simp [lineEffect, lineNeedConfigured, tc, State.advance, tp, nextLines]
  | part x _ _ => cases hy

end Sys2Proof.Machine
end

