-- ==== Sys2Proof/Machine/Assembler.lean ====
section
/-! DEFINITION. The text of host programs (spec 30 R97, R98): one statement a line, `;` starts a comment. A text is read into statements,
or refused; the statements assemble as Program says. -/

namespace Sys2Proof.Machine

/-- A word of a line, or one of its punctuation marks. -/
inductive Token where
  | word (cs : List Char)
  | mark (c : Char)
deriving DecidableEq, Repr

/-- The token list with the word read so far, if any, before it. -/
def flush (cur : List Char) (ts : List Token) : List Token :=
  if cur.isEmpty then ts else .word cur.reverse :: ts

/-- The tokens of a line; `cur` is the word being read, last character first. A `;` ends the line (R97). -/
def tokens : List Char → List Char → List Token
  | cur, [] => flush cur []
  | cur, c :: cs =>
    if c = ';' then flush cur []
    else if c = ',' ∨ c = '=' ∨ c = '[' ∨ c = ']' then flush cur (.mark c :: tokens [] cs)
    else if c.isWhitespace then flush cur (tokens [] cs)
    else tokens (c :: cur) cs

/-- The lines of a text; `cur` is the line being read, last character first. -/
def textLines : List Char → List Char → List (List Char)
  | cur, [] => [cur.reverse]
  | cur, c :: cs => if c = '\n' then cur.reverse :: textLines [] cs else textLines (c :: cur) cs

/-- The value of a digit in a base up to 16. -/
def digitValue (base : Nat) (c : Char) : Option Nat :=
  let v := if '0' ≤ c ∧ c ≤ '9' then c.toNat - '0'.toNat
    else if 'a' ≤ c ∧ c ≤ 'f' then c.toNat - 'a'.toNat + 10
    else if 'A' ≤ c ∧ c ≤ 'F' then c.toNat - 'A'.toNat + 10
    else base
  if v < base then some v else none

/-- The value of digits in a base, most significant first. -/
def digitsValue (base : Nat) : Nat → List Char → Option Nat
  | n, [] => some n
  | n, c :: cs => (digitValue base c).bind fun v => digitsValue base (base * n + v) cs

/-- `<dec>`: at least one decimal digit. -/
def decimal (cs : List Char) : Option Nat := if cs.isEmpty then none else digitsValue 10 0 cs

/-- `<hex>`: hexadecimal digits, at least one, with or without the `0x` of R9 (log entry 22). -/
def hexadecimal : List Char → Option Nat
  | '0' :: 'x' :: c :: cs => digitsValue 16 0 (c :: cs)
  | cs => if cs.isEmpty then none else digitsValue 16 0 cs

/-- A number that fits in w bits. -/
def fits (w : Nat) (n : Option Nat) : Option (BitVec w) :=
  n.bind fun v => if v < 2 ^ w then some (BitVec.ofNat w v) else none

/-- `<F>`, a frequency operand: a name of the given table, as the vectors write `F0`, or a number (log entry 22). -/
def frequency (names : List (List Char × Word)) (cs : List Char) : Option Word :=
  match names.find? fun p => p.1 == cs with
  | some p => some p.2
  | none => (fits 32 (decimal cs)).orElse fun _ => fits 32 (hexadecimal cs)

/-- The tokens after `, key =`, where that is what comes next. -/
def afterKey (key : List Char) : List Token → Option (List Token)
  | .mark ',' :: .word k :: .mark '=' :: rest => if k = key then some rest else none
  | _ => none

/-- The rest of a payload list after its first byte, and the tokens after its `]`. -/
def payloadTail : List Token → Option (List Byte × List Token)
  | .mark ']' :: rest => some ([], rest)
  | .mark ',' :: .word v :: rest =>
    (fits 8 (hexadecimal v)).bind fun b => (payloadTail rest).map fun p => (b :: p.1, p.2)
  | _ => none

/-- `[<hex8>, ...]`, and the tokens after it; the empty list is allowed. -/
def payloadList : List Token → Option (List Byte × List Token)
  | .mark '[' :: .mark ']' :: rest => some ([], rest)
  | .mark '[' :: .word v :: rest =>
    (fits 8 (hexadecimal v)).bind fun b => (payloadTail rest).map fun p => (b :: p.1, p.2)
  | _ => none

/-- `[, addr=<hex>]`. -/
def readAddr (ts : List Token) : Option (Option Word × List Token) :=
  match afterKey ['a', 'd', 'd', 'r'] ts with
  | some (.word v :: rest) => (fits 32 (hexadecimal v)).map fun a => (some a, rest)
  | some _ => none
  | none => some (none, ts)

/-- `[, tx=[<hex8>, ...]]`: at most 255 bytes, the most that NW can say. -/
def readTx (ts : List Token) : Option (List Byte × List Token) :=
  match afterKey ['t', 'x'] ts with
  | some rest => (payloadList rest).bind fun p => if p.1.length < 256 then some p else none
  | none => some ([], ts)

/-- `[, nr=<dec>]`, 0 where it is not given, and the end of the line. -/
def readNr (ts : List Token) : Option Byte :=
  match afterKey ['n', 'r'] ts with
  | some [.word v] => fits 8 (decimal v)
  | some _ => none
  | none => if ts.isEmpty then some 0#8 else none

/-- The operands of TRANSFER after its opcode, in R97's order. -/
def readTransfer (opc : Byte) (ts : List Token) : Option Statement :=
  (readAddr ts).bind fun a =>
    (readTx a.2).bind fun t => (readNr t.2).map fun n => .transfer opc a.1 t.1 n

/-- `aw=<dec>, freq=<F>`. -/
def readFormat (names : List (List Char × Word)) : List Token → Option (Byte × Word)
  | [.word a, .mark '=', .word n, .mark ',', .word f, .mark '=', .word v] =>
    if a = ['a', 'w'] ∧ f = ['f', 'r', 'e', 'q'] then
      (fits 8 (decimal n)).bind fun aw => (frequency names v).map fun w => (aw, w)
    else none
  | _ => none

/-- The statements without operands. -/
def bareStatements : List (List Char × Statement) :=
  [("WAIT_READY".toList, .waitReady), ("ENABLE_WRITE".toList, .enableWrite), ("READ_DECODE".toList, .readDecode),
    ("RELEASE_LATCH".toList, .releaseLatch), ("RESET_PROTECTION".toList, .resetProtection), ("RDSR1".toList, .rdsr1),
    ("RDSR2".toList, .rdsr2), ("RDSR3".toList, .rdsr3), ("WREN".toList, .wren)]

/-- The statement of a line's tokens (R97, R98). -/
def readStatement (names : List (List Char × Word)) : List Token → Option Statement
  | [.word m] => (bareStatements.find? fun p => p.1 == m).map Prod.snd
  | [.word m, .word v] => if m = "WRSR1".toList then (fits 8 (hexadecimal v)).map .wrsr1 else none
  | .word m :: rest =>
    if m = "CONFIGURE".toList then (readFormat names rest).map fun p => .configure p.1 p.2
    else if m = "RUN_RECOVERY".toList then (readFormat names rest).map fun p => .runRecovery p.1 p.2
    else if m = "TRANSFER".toList then
      match rest with
      | .word k :: .mark '=' :: .word v :: rest' =>
        if k = ['o', 'p', 'c'] then (fits 8 (hexadecimal v)).bind fun opc => readTransfer opc rest' else none
      | _ => none
    else none
  | _ => none

/-- The statements of lines; a line without tokens is none. -/
def readLines (names : List (List Char × Word)) : List (List Char) → Option (List Statement)
  | [] => some []
  | l :: ls =>
    match tokens [] l with
    | [] => readLines names ls
    | t :: ts => (readStatement names (t :: ts)).bind fun st => (readLines names ls).map fun sts => st :: sts

/-- The statements of a text, with the names its frequencies use; none where a line is no statement. -/
def readProgram (names : List (List Char × Word)) (text : String) : Option (List Statement) :=
  readLines names (textLines [] text.toList)

/-- A text as host accesses (R97). -/
def assembleText (names : List (List Char × Word)) (text : String) : Option (List Act) :=
  (readProgram names text).map assemble

end Sys2Proof.Machine
end

