-- ==== Sys2Proof/Tests/Slice0.lean ====
section
/-! SUPPORT. Tests. The expected results are those of spec 95's vectors and of the rules' worked examples, named in each comment; the
`witness_…` theorems show, for each statement of the certificate that has hypotheses, a concrete state and operands that meet
them together. -/

namespace Sys2Proof.Tests

set_option Elab.async false

open Sys2Proof.Machine Sys2Proof.Config

/-! ### Helpers -/

/-- The next state of an outcome. -/
def stateOf : Host.Outcome State Fault Refusal → Option State
  | .next s => some s
  | .fault _ => none
  | .refused _ => none

/-- The parameters of the vectors (R8, 95 Conventions). -/
def vectorParams : Params where
  legalAw := ⟨false, false, true, false⟩
  legalFreq := [0xF0#32]
  payloadExtra := 0
  latchLine := .d2
  welCheck := true
  verifyCheck := true
  srLayout := .standard
  boardAw := 24#8
  boardFreq := 0xF0#32
  polarityMode := 0#32
  lineIds := ⟨10, 11, 12, 13, 14, 15⟩

/-- A reference flash `env{SR1, SR2, SR3, busy, hwp, B}` (95 Conventions). -/
def flash (sr1 sr2 sr3 : Byte) (busyLeft : Option Nat) (hwp : Bool) (b : Option Nat) : Env :=
  ⟨some ⟨sr1, sr2, sr3, false, busyLeft, false, hwp, b, 0, []⟩, [], 0⟩

/-- The standard environment E0. -/
def e0 : Env := flash 0x9C#8 0x02#8 0x60#8 (some 0) true (some 0)

/-- An environment with frame k failing with status s (R131). -/
def failing (e : Env) (k : Nat) (s : Word)
    : Env := { e with responder := e.responder.map fun r => { r with injected := [(k, s)] } }

/-- `S_reset` with FREQ = F0 and an environment. -/
def sReset (e : Env) : State := { State.reset with params := vectorParams, freq := ⟨0xF0#32, true⟩, env := e }

/-- `S_cfg`: configured, with an empty trace. -/
def sCfg (e : Env) : State :=
  { sReset e with
    status := ⟨false, true, false, false, false, 0#3, 0#3⟩
    cfg := ⟨24#8, 0xF0#32⟩
    xferMode := .single }

/-- `S_cfg` after RELEASE_LATCH. -/
def sReleased (e : Env) : State :=
  { sCfg e with
    status := ⟨false, true, true, false, false, 0#3, 0#3⟩
    lineRole := ⟨.bus, .bus, .passiveIn, .bus⟩ }

/-- A state after READ_DECODE: SNAP holds R190's third row. -/
def withSnap (s : State) : State :=
  { s with snap := ⟨0x9C#8, 0x02#8, 0x60#8, true⟩, status := { s.status with snapValid := true } }

/-- The normative environment with its next draws. -/
def drawing (ds : List Word) : Env := ⟨none, ds, 0⟩

/-- The draws that answer one-byte reads with success and the given bytes. -/
def readDraws (bs : List Byte) : List Word := bs.flatMap fun b => [0#32, b.setWidth 32]

theorem reads_drawing (p : Params) (l : LineRole) (f : WireFrame) (hf : f.nr = 1) (bs : List Byte) (ds : List Word)
    (n : Nat) :
    Env.reads p l f bs ⟨none, readDraws bs ++ ds, n⟩ ⟨none, ds, n⟩ := by
  induction bs with
  | nil => rfl
  | cons b bs ih =>
    have h := busFrame_reads p l f b (readDraws bs ++ ds) n hf
    exact ⟨congrArg Prod.fst h, by
      show Env.reads p l f bs (busFrame p l f ⟨none, 0#32 :: b.setWidth 32 :: (readDraws bs ++ ds), n⟩).2 _
      rw [h]; exact ih⟩

theorem acks_drawing (p : Params) (l : LineRole) (f : WireFrame) (hf : f.nr = 0) (ds : List Word) (n : Nat) :
    Env.acks p l f ⟨none, 0#32 :: ds, n⟩ ⟨none, ds, n⟩ := busFrame_writes p l f ds n hf

theorem fails_drawing (p : Params) (l : LineRole) (f : WireFrame) (st : Word) (h : st ≠ 0#32) (ds : List Word) (n : Nat) :
    Env.fails p l f st ⟨none, st :: ds, n⟩ ⟨none, ds, n⟩ :=
  ⟨h, by rw [busFrame_fails p l f st ds n h], by rw [busFrame_fails p l f st ds n h]⟩

/-- No operands. -/
def noFields : Fields := ⟨0#8, 0#1, 0#8, 0#8⟩

/-- The address width 24. -/
def aw24 : Fields := ⟨24#8, 0#1, 0#8, 0#8⟩

/-! ### Well-formedness -/

/-- The one check refuses each TRANSFER that a pseudo row names (R98). -/
theorem test_wf_refuses_pseudo_spellings :
    [Instr.transfer ⟨0x05#8, 0#1, 0#8, 1#8⟩, .transfer ⟨0x35#8, 0#1, 0#8, 1#8⟩, .transfer ⟨0x15#8, 0#1, 0#8, 1#8⟩,
      .transfer ⟨0x06#8, 0#1, 0#8, 0#8⟩, .transfer ⟨0x01#8, 0#1, 1#8, 0#8⟩].all (fun i => !i.wf) = true := by decide

theorem test_wf_accepts : (Instr.transfer ⟨0x9F#8, 0#1, 0#8, 1#8⟩).wf = true ∧ Instr.transferWren.wf = true := by decide

/-! ### Decoding: words written out from R85, R90, R98, R99 and 95 L2-E -/

theorem test_decode_configure : decodeRequest 0x00000181#32 = .ok (.configure aw24) := by decide
theorem test_decode_configure_32 : decodeRequest 0x00000201#32 = .ok (.configure ⟨32#8, 0#1, 0#8, 0#8⟩) := by decide
theorem test_decode_transfer : decodeRequest 0x002009F2#32 = .ok (.transfer ⟨0x9F#8, 0#1, 0#8, 1#8⟩) := by decide
theorem test_decode_transfer_ap : decodeRequest 0x00201052#32 = .ok (.transfer ⟨0x05#8, 1#1, 0#8, 1#8⟩) := by decide
theorem test_decode_transfer_nw : decodeRequest 0x00004012#32 = .ok (.transfer ⟨0x01#8, 0#1, 2#8, 0#8⟩) := by decide
theorem test_decode_waitReady : decodeRequest 0x00000FF3#32 = .ok (.waitReady ⟨0xFF#8, 0#1, 0#8, 0#8⟩) := by decide
theorem test_decode_enableWrite : decodeRequest 0x00000004#32 = .ok (.enableWrite noFields) := by decide
theorem test_decode_readDecode : decodeRequest 0x00000005#32 = .ok (.readDecode noFields) := by decide
theorem test_decode_releaseLatch : decodeRequest 0x00000006#32 = .ok (.releaseLatch noFields) := by decide
theorem test_decode_resetProtection : decodeRequest 0x00000007#32 = .ok (.resetProtection noFields) := by decide
theorem test_decode_runRecovery : decodeRequest 0x00000188#32 = .ok (.runRecovery aw24) := by decide
theorem test_decode_transferRdsr1 : decodeRequest 0x00200052#32 = .ok .transferRdsr1 := by decide
theorem test_decode_transferRdsr2 : decodeRequest 0x00200352#32 = .ok .transferRdsr2 := by decide
theorem test_decode_transferRdsr3 : decodeRequest 0x00200152#32 = .ok .transferRdsr3 := by decide
theorem test_decode_transferWren : decodeRequest 0x00000062#32 = .ok .transferWren := by decide
theorem test_decode_transferWrsr1 : decodeRequest 0x00002012#32 = .ok .transferWrsr1 := by decide

/-- 95 L2-E15, E16, E17. -/
theorem test_decode_reserved :
    decodeRequest 0x00000000#32 = .error (.reservedOp 0#4) ∧ decodeRequest 0x0000000F#32 = .error (.reservedOp 15#4) ∧
      decodeRequest 0x00000009#32 = .error (.reservedOp 9#4)
          ∧ decodeRequest 0x20000003#32 = .error .reservedBits := by decide

/-- 95 L1-12: `00000101`. -/
theorem test_decode_rdsr1 :
    decodeFrame [false, false, false, false, false, true, false, true] = .ok (.rdsr1, []) := by decide

/-- 95 L1-12: `00110101`. -/
theorem test_decode_rdsr2 :
    decodeFrame [false, false, true, true, false, true, false, true] = .ok (.rdsr2, []) := by decide

/-- 95 L1-12: `00010101`. -/
theorem test_decode_rdsr3 :
    decodeFrame [false, false, false, true, false, true, false, true] = .ok (.rdsr3, []) := by decide

/-- 95 L1-12: `00000110`. -/
theorem test_decode_wren :
    decodeFrame [false, false, false, false, false, true, true, false] = .ok (.wren, []) := by decide

/-- 95 L1-12, with the payload 0x82. -/
theorem test_decode_wrsr1 :
    decodeFrame [false, false, false, false, false, false, false, true, true, false, false, false, false, false, true,
        false] =
      .ok (.wrsr1 0x82#8, []) := by decide

/-- A frame cut short, and one with a bit too many. -/
theorem test_decode_frame_refuses :
    decodeFrame [false, false, false] = .error .truncated ∧
      decode (.frame [false, false, false, false, false, true, true, false, true]) = .error .trailingBits := by decide

/-- The table's numbering: a second byte stands in bits 15..8. -/
theorem test_decodeTableWord :
    decodeTableWord 32 0x188 = some (.runRecovery aw24) ∧ decodeTableWord 8 0x35 = some .rdsr2 ∧
      decodeTableWord 8 0x01 = some (.wrsr1 0#8) ∧ decodeTableWord 16 0x8201 = some (.wrsr1 0x82#8) ∧
      decodeTableWord 8 0x02 = none ∧ decodeTableWord 32 0x0 = none := by decide

/-! ### Instructions as the first after reset -/

/-- 95 L2-W8: from reset, unconfigured. -/
theorem test_first_request :
    (stateOf (step (State.reset.withFetchWord 32 0x3))).map (fun t => (t.trace, t.status.active)) =
      some ([.done 3#4 5#4], false) := by decide +kernel

/-- A placed WRSR1 0x82 sends its frame. -/
theorem test_first_frame :
    (stateOf (step ((sReset (drawing [0#32])).withFetchWord 16 0x8201))).map (fun t => t.trace) =
      some [.frame 0x01#8 none [0x82#8] 0 0#32 []] := by decide +kernel

/-! ### CONFIGURE -/

/-- 95 L2-C1. -/
theorem test_configure :
    (stateOf (exec (.configure aw24) (sReset e0))).map (fun t => (t.trace, t.status.configured, t.cfg.aw, t.cfg.freq)) =
      some ([.cfg 24#32 0xF0#32 true, .done 1#4 0#4], true, 24#8, 0xF0#32) := by decide +kernel

/-- 95 L2-C4: aw = 12 is never legal. -/
theorem test_configure_illegal :
    (stateOf (exec (.configure ⟨12#8, 0#1, 0#8, 0#8⟩) (sReset (drawing [7#32])))).map
        (fun t => (t.trace, t.status.configured, t.errStatus)) =
      some ([.cfg 12#32 0xF0#32 false, .done 1#4 3#4], false, 7#32) := by decide +kernel

/-! ### TRANSFER and the pseudo rows -/

/-- 95 L2-T7: a reserved opcode. -/
theorem test_transfer_malformed :
    (stateOf (exec (.transfer ⟨0x9F#8, 0#1, 0#8, 1#8⟩) (sCfg e0))).map (fun t => (t.trace, t.result, t.errStatus)) =
      some ([.done 2#4 1#4], ⟨1#4, 2#4, 0x9F#8, 0#8, true, false⟩, 0xFFFFFFFF#32) := by decide +kernel

/-- 95 L2-T11: an address. -/
theorem test_transfer_with_address :
    (stateOf (exec (.transfer ⟨0x05#8, 1#1, 0#8, 1#8⟩) (sCfg e0))).map (fun t => (t.trace, t.result.errOpc)) =
      some ([.done 2#4 1#4], 0x05#8) := by decide +kernel

/-- 95 L2-T1. -/
theorem test_transferRdsr1 :
    (stateOf (exec .transferRdsr1 (sCfg e0))).map (fun t => (t.trace, t.rxbuf)) =
      some ([.frame 0x05#8 none [] 1 0#32 [0x9C#8], .done 2#4 0#4], [(0x80, 0x9C#8)]) := by decide +kernel

/-- 95 L2-T13: frame 1 fails. -/
theorem test_transferRdsr1_fails :
    (stateOf (exec .transferRdsr1 (sCfg (failing e0 1 5#32)))).map (fun t => (t.trace, t.errStatus, t.rxbuf)) =
      some ([.frame 0x05#8 none [] 1 5#32 [], .done 2#4 1#4], 5#32, []) := by decide +kernel

/-- 95 L2-T2. -/
theorem test_transferRdsr2 :
    (stateOf (exec .transferRdsr2 (sCfg e0))).map (fun t => (t.trace, t.rxbuf)) =
      some ([.frame 0x35#8 none [] 1 0#32 [0x02#8], .done 2#4 0#4], [(0x80, 0x02#8)]) := by decide +kernel

/-- 95 L2-T3. -/
theorem test_transferRdsr3 :
    (stateOf (exec .transferRdsr3 (sCfg e0))).map (fun t => (t.trace, t.rxbuf)) =
      some ([.frame 0x15#8 none [] 1 0#32 [0x60#8], .done 2#4 0#4], [(0x80, 0x60#8)]) := by decide +kernel

/-- 95 L2-RD4: the snapshot goes stale, and the flash's WEL is set. -/
theorem test_transferWren :
    (stateOf (exec .transferWren (withSnap (sCfg e0)))).map
        (fun t => (t.trace, t.status.snapValid, t.env.responder.map Responder.wel)) =
      some ([.frame 0x06#8 none [] 0 0#32 [], .done 2#4 0#4], false, some true) := by decide +kernel

/-- 95 L2-T14: the frame fails, and the snapshot goes stale all the same. -/
theorem test_transferWren_fails :
    (stateOf (exec .transferWren (withSnap (sCfg (failing e0 1 7#32))))).map (fun t => (t.status.snapValid, t.errStatus)) =
      some (false, 7#32) := by decide +kernel

/-- R98: the payload is TXBUF[0] as latched. -/
theorem test_transferWrsr1 :
    (stateOf (exec .transferWrsr1 { sCfg e0 with txbuf := [(0x40, 0x82#8)] })).map (fun t => t.trace) =
      some [.frame 0x01#8 none [0x82#8] 0 0#32 [], .done 2#4 0#4] := by decide +kernel

/-- 95 L2-G4: a host write to TXBUF while the frame is active does not reach it. -/
theorem test_transferWrsr1_latched :
    (stateOf (exec .transferWrsr1
        { sCfg e0 with txbuf := [(0x40, 0x00#8)], port := [.pause, .write 0x40 .byte 0xFF#32] })).map
        (fun t => (t.trace, t.txbuf)) =
      some ([.frame 0x01#8 none [0x00#8] 0 0#32 [], .done 2#4 0#4], [(0x40, 0xFF#8)]) := by decide +kernel

/-! ### The wire commands, at the lines that send them -/

/-- READ_DECODE line 2 keeps b1 (R118, R185). -/
theorem test_rdsr1 :
    (stateOf (exec .rdsr1 { sCfg e0 with ptr := [.snapRead1, .endOk] })).map
        (fun t => (t.trace, t.locals.b1, t.ptr)) =
      some ([.frame 0x05#8 none [] 1 0#32 [0x9C#8]], 0x9C#8, [.endOk]) := by decide +kernel

/-- 95 L2-RD3: a failed RDSR2 of READ_DECODE. -/
theorem test_rdsr2_fails :
    (stateOf (exec .rdsr2 { withSnap (sCfg (failing e0 1 4#32)) with ptr := [.snapRead2, .snapRead3] })).map
        (fun t => (t.status.snapValid, t.snap, t.result.errOpc, t.ptr)) =
      some (false, ⟨0x9C#8, 0x02#8, 0x60#8, true⟩, 0x35#8, []) := by decide +kernel

/-- R120's example. -/
theorem test_rdsr3 :
    (stateOf (exec .rdsr3 { sCfg e0 with ptr := [.snapRead3] })).map (fun t => (t.locals.b3, t.ptr)) =
      some (0x60#8, []) := by decide +kernel

/-- R116, R121. -/
theorem test_wren :
    (stateOf (exec .wren { withSnap (sCfg e0) with ptr := [.sendWren, .endOk] })).map
        (fun t => (t.trace, t.status.snapValid, t.ptr)) =
      some ([.frame 0x06#8 none [] 0 0#32 []], false, [.endOk]) := by decide +kernel

/-- R122, with a payload that is not 0. -/
theorem test_wrsr1 :
    (stateOf (exec (.wrsr1 0x82#8) { sCfg e0 with ptr := [.xferFrame, .endOk] })).map (fun t => (t.trace, t.ptr)) =
      some ([.frame 0x01#8 none [0x82#8] 0 0#32 []], [.endOk]) := by decide +kernel

/-! ### WAIT_READY and ENABLE_WRITE -/

/-- 95 L2-W2. -/
theorem test_waitReady :
    (stateOf (exec (.waitReady noFields) (sCfg (flash 0x00#8 0#8 0#8 (some 2) true (some 0))))).map
        (fun t => (t.trace, t.retry)) =
      some ([.frame 0x05#8 none [] 1 0#32 [0x01#8], .wait 1, .frame 0x05#8 none [] 1 0#32 [0x01#8], .wait 1,
        .frame 0x05#8 none [] 1 0#32 [0x00#8], .done 3#4 0#4], 9998#14) := by decide +kernel

/-- 95 L2-W6: frame 2 fails. -/
theorem test_waitReady_fails :
    (stateOf (exec (.waitReady noFields) (sCfg (failing (flash 0x00#8 0#8 0#8 (some 5) true (some 0)) 2 5#32)))).map
        (fun t => (t.trace, t.retry, t.errStatus)) =
      some ([.frame 0x05#8 none [] 1 0#32 [0x01#8], .wait 1, .frame 0x05#8 none [] 1 5#32 [], .done 3#4 1#4],
        9999#14, 5#32) := by decide +kernel

/-- 95 L2-EW2. -/
theorem test_enableWrite :
    (stateOf (exec (.enableWrite noFields) (sCfg (flash 0x9C#8 0x02#8 0x60#8 (some 1) true (some 0))))).map
        (fun t => (t.trace, t.retry, t.status.snapValid)) =
      some ([.frame 0x05#8 none [] 1 0#32 [0x9D#8], .wait 1, .frame 0x05#8 none [] 1 0#32 [0x9C#8],
        .frame 0x06#8 none [] 0 0#32 [], .frame 0x05#8 none [] 1 0#32 [0x9E#8], .frame 0x05#8 none [] 1 0#32 [0x9E#8],
        .done 4#4 0#4], 10000#14, false) := by decide +kernel

/-- 95 L2-EW4: every read answers 0x00. -/
theorem test_enableWrite_not_latched :
    (stateOf (exec (.enableWrite noFields) (sCfg (drawing [0, 0, 0, 0, 0, 0, 0])))).map (fun t => (t.trace.length,
        t.result)) =
      some (5, ⟨4#4, 4#4, 0#8, 0#8, false, true⟩) := by decide +kernel

/-! ### READ_DECODE, RELEASE_LATCH, RESET_PROTECTION -/

/-- 95 L2-RD1. -/
theorem test_readDecode :
    (stateOf (exec (.readDecode noFields) (sCfg e0))).map
        (fun t => (t.status.snapValid, snapWord t.snap.sr1 t.snap.sr2 t.snap.sr3,
          (decodeStatus t.params.srLayout t.snap.sr1 t.snap.sr2 t.snap.sr3).word, t.rxbuf)) =
      some (true, 0x0060029C#32, 0xE9C#32, [(0x80, 0x60#8)]) := by decide +kernel

/-- 95 L2-RD3. -/
theorem test_readDecode_fails :
    (stateOf (exec (.readDecode noFields) (withSnap (sCfg (failing e0 2 4#32))))).map
        (fun t => (t.trace, t.status.snapValid, t.result.errOpc)) =
      some ([.frame 0x05#8 none [] 1 0#32 [0x9C#8], .frame 0x35#8 none [] 1 4#32 [], .done 5#4 1#4], false, 0x35#8) := by
  decide +kernel

/-- 95 L2-RL1. -/
theorem test_releaseLatch :
    (stateOf (exec (.releaseLatch noFields) (sCfg e0))).map (fun t => (t.trace, t.lineRole.word, t.pinCalls)) =
      some ([.pin .d2 .passiveIn, .done 6#4 0#4], 0x4#32, [(12, .passiveIn)]) := by decide +kernel

/-- 95 L2-RL4: `LATCH_LINE` = D3. -/
theorem test_releaseLatch_d3 :
    (stateOf (exec (.releaseLatch noFields) { sCfg e0 with params := { vectorParams with latchLine := .d3 } })).map
        (fun t => (t.trace, t.lineRole.word)) =
      some ([.pin .d3 .passiveIn, .done 6#4 0#4], 0x8#32) := by decide +kernel

/-- R224, 95 L2-RP2: a slow write. -/
theorem test_resetProtection :
    (stateOf (exec (.resetProtection noFields) (sReleased (flash 0x9C#8 0x02#8 0x60#8 (some 0) true (some 2))))).map
        (fun t => (t.trace.drop 4, t.retry, t.env.responder.map fun r => (r.sr1, r.wel))) =
      some ([.frame 0x05#8 none [] 1 0#32 [0x9E#8], .frame 0x01#8 none [0x00#8] 0 0#32 [],
        .frame 0x05#8 none [] 1 0#32 [0x03#8], .wait 1, .frame 0x05#8 none [] 1 0#32 [0x03#8], .wait 1,
        .frame 0x05#8 none [] 1 0#32 [0x00#8], .done 7#4 0#4], 9998#14, some (0x00#8, false)) := by decide +kernel

/-- 95 L2-RP3: without the remap the write is refused by the flash, and the block reports success. -/
theorem test_resetProtection_still_latched :
    (stateOf (exec (.resetProtection noFields) (sCfg e0))).map
        (fun t => (t.result.code, t.env.responder.map fun r => (r.sr1, r.wel))) =
      some (0#4, some (0x9C#8, true)) := by decide +kernel

/-! ### RUN_RECOVERY -/

/-- 95 L1-7 (scenario A). -/
theorem test_runRecovery :
    (stateOf (exec (.runRecovery aw24) (sReset e0))).map (fun t => (t.trace, t.status)) =
      some ([.cfg 24#32 0xF0#32 true, readEvent 0x05#8 0x9C#8, .pin .d2 .passiveIn, readEvent 0x05#8 0x9C#8, wrenEvent,
        readEvent 0x05#8 0x9E#8, readEvent 0x05#8 0x9E#8, readEvent 0x05#8 0x9E#8, readEvent 0x05#8 0x9E#8, wrenEvent,
        readEvent 0x05#8 0x9E#8, readEvent 0x05#8 0x9E#8, wrsr1Event, readEvent 0x05#8 0x00#8, readEvent 0x05#8 0x00#8,
        readEvent 0x35#8 0x02#8, readEvent 0x15#8 0x60#8, .done 8#4 0#4],
        ⟨false, true, true, true, false, 4#3, 5#3⟩) := by decide +kernel

/-- 95 L2-RR9: the first WREN fails, and the remap is not undone. -/
theorem test_runRecovery_aborts :
    (stateOf (exec (.runRecovery aw24) (sReset (failing e0 3 2#32)))).map
        (fun t => (t.trace.length, t.result.code, t.status.orch, t.status.stage, t.lineRole.word)) =
      some (6, 1#4, 7#3, 2#3, 0x4#32) := by decide +kernel

/-! ### The host, the gate and reset -/

/-- 95 L2-G3: a request during a WAIT_READY is dropped. -/
theorem test_gate :
    (stateOf (exec (.waitReady noFields)
        { sCfg (flash 0x00#8 0#8 0#8 (some 1) true (some 0)) with
          port := [.pause, .pause, .pause, .write 0x00 .word 0x5#32, .pause] })).map (fun t => (t.trace, t.status.ovr)) =
      some ([readEvent 0x05#8 0x01#8, .drop 0x5#32, .wait 1, readEvent 0x05#8 0x00#8, .done 3#4 0#4], true) := by
  decide +kernel

/-- 95 L2-G2: a reserved word, even when configured. -/
theorem test_reserved_word :
    (stateOf (step { sCfg e0 with port := [.write 0x00 .word 0x20000003#32] })).map (fun t => (t.trace, t.result.op)) =
      some ([.done 3#4 5#4], 3#4) := by decide +kernel

/-- 95 L2-RS1: reset after a released latch; the flash keeps its state. -/
theorem test_block_reset :
    (stateOf (step { withSnap (sReleased e0) with port := [.reset] })).map
        (fun t => (t.status, t.result.code, t.lineRole.word, t.env == e0)) =
      some (⟨false, false, false, false, false, 0#3, 0#3⟩, 0xF#4, 0#32, true) := by decide +kernel

/-- R190's rows 3, 5 and 6. -/
theorem test_decode_status :
    (decodeStatus .standard 0x9C#8 0x02#8 0x60#8).word = 0xE9C#32 ∧ (decodeStatus .standard 0x7C#8 0x01#8 0x20#8).word
        = 0x57C#32 ∧
      (decodeStatus .standard 0x80#8 0xFC#8 0x9F#8).word = 0x080#32 := by decide +kernel

/-- R181: WEL on BUSY's bit, or QE on SRP1's, makes no layout. -/
theorem test_layout_overlap :
    ({ SrPositions.standard with wel := 0 }).disjoint = false ∧
      ({ SrPositions.standard with qe := ⟨.sr2, 0⟩ }).disjoint = false := by decide

theorem test_reset_memories_wf : State.reset.txbuf.wf = true ∧ State.reset.rxbuf.wf = true := by decide

/-! ### Host programs -/

/-- The name the vectors give the frequency (95 Conventions). -/
def f0Name : List (List Char × Word) := [(['F', '0'], 0xF0#32)]

/-- 95 L2-E11 and L2-E12's statements, a comment and a pseudo-instruction, as host accesses (R97, R98). -/
theorem test_assemble :
    assembleText f0Name "TRANSFER opc=0x05, addr=0, nr=1 ; malformed\nTRANSFER opc=0x01, tx=[00], nr=1\n\n  WRSR1 0x82" =
      some [.write 0x04 .word 0#32, .write 0x00 .word 0x00201052#32, .await, .write 0x40 .byte 0#32,
        .write 0x00 .word 0x00202012#32, .await, .write 0x40 .byte 0x82#32, .write 0x00 .word 0x00002012#32, .await] := by
  decide +kernel

/-- R97: unknown mnemonics, operands out of their order and values that do not fit are no statements. -/
theorem test_assemble_refuses :
    assembleText f0Name "ERASE" = none ∧ assembleText f0Name "TRANSFER opc=0x05, nr=1, addr=0" = none ∧
      assembleText f0Name "CONFIGURE aw=256, freq=F0" = none := by decide +kernel

/-- 95 P4: CONFIGURE fails, and RUN_RECOVERY is not run. -/
theorem test_abort_on_error :
    (assembleText f0Name "CONFIGURE aw=20, freq=F0\nRUN_RECOVERY aw=24, freq=F0").bind (fun acts =>
        ((stateOf (step { sReset (drawing [7#32]) with port := acts })).bind fun s1 =>
          (stateOf (step s1)).bind fun s2 => stateOf (step s2)).map fun t => (t.trace, t.port, t.readLog)) =
      some ([.cfg 20#32 0xF0#32 false, .done 1#4 3#4], [], [0x13#32]) := by decide +kernel

/-! ### Witnesses: encodings and the step -/

theorem witness_DecodeEncodeAgree : (Instr.transfer ⟨0xFF#8, 1#1, 255#8, 255#8⟩).wf = true := by decide

theorem witness_ReservedEncodingsDoNotDecode :
    rsvField 0x20000001#32 ≠ 0#3 ∧ opField 0x00000000#32 = 0#4 ∧ 9#4 ≤ opField 0x00000009#32 ∧ 9#4 ≤ opField 0x0000000F#32 ∧
      0x00#8 ∉ [0x05#8, 0x35#8, 0x15#8, 0x06#8, 0x01#8] ∧ 0xFF#8 ∉ [0x05#8, 0x35#8, 0x15#8, 0x06#8, 0x01#8] := by decide

theorem witness_FrameLengthInClocks : (32 : Nat) % 8 = 0 := by decide

theorem witness_AddressPhaseIsMostSignificantFirst : (8 : Nat) % 8 = 0 := by decide

theorem witness_StepRunsTheRequest :
    ∃ (s : State) (w : Word) (i : Instr) (rest : List Act),
      s.status.active = false ∧ s.port = .write 0x00 .word w :: rest ∧ decodeRequest w = .ok i :=
  ⟨{ sReset e0 with port := [.write 0x00 .word 0x8#32, .await] }, 0x8#32, .runRecovery noFields, [.await], rfl, rfl,
      by decide⟩

/-- An operation that stands at a WRSR1 frame, while the host writes TXBUF. -/
def atFrame : State :=
  { sCfg e0 with
    status := ⟨true, true, false, false, false, 0#3, 0#3⟩
    ptr := [.sendWrsr1, .endOk]
    port := [.write 0x40 .byte 5#32] }

theorem witness_StepRunsTheWireCommand :
    ∃ (s u : State) (f : WireFrame) (i : Instr),
      s.status.active = true ∧ deliver s.port s = u ∧ u.status.active = true ∧ nextFrame u = some f ∧ f.admitted = true ∧
        decodeFrame (f.outBits u.cfg.aw.toNat) = .ok (i, []) :=
  ⟨atFrame, deliver atFrame.port atFrame, wrsr1Frame 0#8, .wrsr1 0#8, rfl, rfl, by decide +kernel, by decide +kernel,
      by decide,
    by decide +kernel⟩

theorem witness_ActiveStepIsOneRound : atFrame.status.active = true := rfl

theorem witness_ReservedWordIsRejected :
    ∃ (s : State) (w : Word) (rest : List Act), s.status.active = false ∧ s.port = .write 0x00 .word w :: rest ∧
      (rsvField w ≠ 0#3 ∨ opField w = 0x0#4 ∨ 0x9#4 ≤ opField w) :=
  ⟨{ sCfg e0 with port := [.write 0x00 .word 0x9#32] }, 0x9#32, [], rfl, rfl, by decide⟩

/-- A request, and a reserved word: each is dropped. -/
theorem witness_RequestWhileActiveIsDropped :
    encode .transferWren = .request 0x00000062#32 ∧ atFrame.status.active = true ∧
      (stateOf (hostWrite 0x00 .word 0xFFFFFFFF#32 atFrame)).map (fun t => (t.status.ovr, t.trace)) =
        some (true, atFrame.trace ++ [.drop 0xFFFFFFFF#32]) := ⟨rfl, rfl, by decide +kernel⟩

theorem witness_RequestIsTheRunOfItsSteps :
    encode .transferWren = .request 0x00000062#32 ∧ Instr.transferWren.lines = some transferLines ∧
      (sCfg e0).status.active = false := ⟨rfl, rfl, rfl⟩

theorem witness_EveryRequestEndsOnce : encode .transferWrsr1 = .request 0x00002012#32 ∧ (sCfg e0).ready := ⟨rfl, rfl, rfl⟩

theorem witness_HostAccessesDoNotInterfere :
    ∃ (t u : State) (p q : List Act), encode .transferWren = .request 0x00000062#32 ∧ (sCfg e0).status.active = false ∧
      (∀ a ∈ p, a.access = true) ∧ (∀ a ∈ q, a.access = true) ∧ p ≠ q ∧
      exec .transferWren { sCfg e0 with port := p } = .next t ∧ exec .transferWren { sCfg e0 with port := q } = .next u :=
  ⟨_, _, [.pause, .write 0x00 .word 5#32], [.read 0x0C .word, .await], rfl, rfl, by decide, by decide, by decide, rfl, rfl⟩

/-! ### Witnesses: invariants and the host -/

theorem witness_EveryStepKeepsInvariant :
    (State.reset).Inv ∧ ∃ t : State, step State.reset = .next t := by
  refine ⟨⟨?_, ?_, ?_, ?_, fun _ => rfl, ⟨by decide, by decide⟩, fun _ => rfl, rfl, ⟨rfl, rfl, rfl⟩, rfl⟩, State.reset, rfl⟩
  · exact fun h => absurd h (by decide)
  · exact ⟨fun h => absurd h (by decide), fun h => absurd h (by decide)⟩
  · intro d h
    cases d <;> exact absurd h (by decide)
  · exact fun h => absurd rfl h

theorem witness_SessionStateOnlyGrows :
    ∃ s t : State, step s = .next t ∧ Act.reset ∉ s.port ∧ s.status.configured = true ∧ s.status.latchReleased = true ∧
      s.lineRole.get .d2 = .passiveIn ∧ s.status.active = false ∧ s.status.orch = 7#3 :=
  ⟨{ sReleased e0 with status := ⟨false, true, true, false, false, 2#3, 7#3⟩, port := [.pause] }, _, rfl, by decide,
      rfl, rfl, rfl, rfl, rfl⟩

theorem witness_OnlyTheNamedOperationsWrite :
    ∃ t : State, encode .transferRdsr1 = .request 0x00200052#32 ∧ (sCfg e0).ready ∧ exec .transferRdsr1 (sCfg e0)
        = .next t :=
  ⟨_, rfl, ⟨rfl, rfl⟩, rfl⟩

theorem witness_BlockResetRestoresResetValues : ({ atFrame with port := [.reset] } : State).port = .reset :: [] := rfl

theorem witness_HostAccessRules :
    0x0C ∈ [0x0C, 0x10, 0x14, 0x18, 0x1C, 0x20, 0x24, 0x28, 0x2C] ∧ 0 < vectorParams.maxPayload ∧
      inTx vectorParams (0x80 + 0) = false ∧ inRx vectorParams (0x40 + 0) = false ∧
      (∃ t, hostRead 0x2C .word (sCfg e0) = .next t) ∧ ∃ t, hostWrite 0x2C .word 1#32 (sCfg e0) = .next t :=
  ⟨by decide, by decide, by decide, by decide, ⟨_, rfl⟩, _, rfl⟩

theorem witness_HostReadValues :
    ({ sCfg e0 with port := [.read 0x0C .word] } : State).port = .read 0x0C .word :: [] ∧ (sCfg e0).status.active = false ∧
      (sCfg e0).status.orch ≠ 6#3 ∧ reservedCode (sCfg e0).result.code = false ∧ (withSnap (sCfg e0)).snap.written = true ∧
      ({ sCfg e0 with txbuf := [(0x40, 1#8)] } : State).txbuf.read (0x40 + 0) = some 1#8 ∧
      ({ sCfg e0 with rxbuf := [(0x80, 1#8)] } : State).rxbuf.read (0x80 + 0) = some 1#8 ∧
      inRx vectorParams (0x40 + 0) = false ∧ inTx vectorParams (0x80 + 0) = false ∧ 0 < vectorParams.maxPayload :=
  ⟨rfl, rfl, by decide, by decide, rfl, rfl, rfl, by decide, by decide, by decide⟩

/-- Storage that nothing has written: SNAP, DECODED and the buffers. -/
theorem witness_HostReadValues_unwritten :
    (sCfg e0).snap.written = false ∧ (sCfg e0).txbuf.read (0x40 + 0) = none ∧ (sCfg e0).rxbuf.read (0x80 + 0) = none := by
  decide

/-- The reserved indices at both ends, and the accesses outside the interface. -/
theorem witness_HostReadValues_edges :
    (inTx vectorParams 0x30 = false ∧ inRx vectorParams 0x30 = false ∧ 0x30 % 4 = 0) ∧
      (inTx vectorParams 0xFC = false ∧ inRx vectorParams 0xFC = false ∧ 0xFC % 4 = 0) ∧
      (inTx vectorParams 0x41 = false ∧ inRx vectorParams 0x41 = false ∧ 0x41 % 4 ≠ 0) ∧
      (inTx vectorParams 0x40 = true ∧ Width.word ≠ .byte) := by decide

theorem witness_LegalWidthsAreBounded :
    (LegalAw.admits ⟨true, false, false, true⟩ 8#32 = true) ∧ (LegalAw.admits ⟨true, false, false, true⟩ 32#32 = true)
        := by decide

/-! ### Witnesses: CONFIGURE, the refusals, TRANSFER -/

theorem witness_ConfigureCompletes :
    (sReset e0).ready ∧ (sReset e0).status.configured = false ∧
      (sReset e0).params.legalAw.admits (aw24.arg.setWidth 32) = true ∧
      (sReset e0).params.legalFreq.contains (readOperand (sReset e0).freq (sReset e0).env).1 = true :=
  ⟨⟨rfl, rfl⟩, rfl, by decide, by decide⟩

/-- The width 0, and the legal width with a frequency that is not legal. -/
theorem witness_ConfigureWithIllegalFormatFails :
    (∃ cst e', (sReset e0).ready ∧ (sReset e0).status.configured = false ∧
      readOperand (sReset e0).freq (sReset e0).env = (0xF0#32, e0) ∧
      transportConfigure vectorParams (noFields.arg.setWidth 32) 0xF0#32 e0 = (cst, e') ∧
      vectorParams.legalAw.admits (noFields.arg.setWidth 32) = false) ∧
      ∃ cst e', transportConfigure vectorParams (aw24.arg.setWidth 32) 0xF1#32 e0 = (cst, e') ∧
        vectorParams.legalFreq.contains 0xF1#32 = false :=
  ⟨⟨_, _, ⟨rfl, rfl⟩, rfl, rfl, rfl, by decide⟩, _, _, rfl, by decide⟩

theorem witness_ConfigureTwiceIsRefused : (sCfg e0).ready ∧ (sCfg e0).status.configured = true := ⟨⟨rfl, rfl⟩, rfl⟩

theorem witness_PreconditionsRefuse :
    (encode .transferRdsr1 = .request 0x00200052#32 ∧ Instr.transferRdsr1.configures = false ∧ (sReset e0).ready ∧
      (sReset e0).status.configured = false) ∧
      (sReleased e0).ready ∧ (sReleased e0).status.configured = true ∧ (sReleased e0).status.latchReleased = true :=
  ⟨⟨rfl, rfl, ⟨rfl, rfl⟩, rfl⟩, ⟨rfl, rfl⟩, rfl, rfl⟩

theorem witness_TransferSendsItsFrame :
    ∃ (s : State) (f : Fields) (tx rx : List Byte) (e e' : Env),
      encode .transferWrsr1 = .request 0x00002012#32 ∧ opField 0x00002012#32 = 0x2#4 ∧ fieldsOf 0x00002012#32 = f ∧ s.ready ∧
        s.status.configured = true ∧ s.xferMode = .single ∧ f.ap = 0#1 ∧ shapeOf f.arg = some (f.nw.toNat, f.nr.toNat) ∧
        memRead s.txbuf 0x40 f.nw.toNat s.env = (tx, e) ∧
        busFrame s.params s.latchRole ⟨f.arg, none, tx, f.nr.toNat⟩ e = (⟨0#32, rx⟩, e') :=
  ⟨{ sCfg (drawing [0]) with txbuf := [(0x40, 0x82#8)] }, ⟨0x01#8, 0#1, 1#8, 0#8⟩, [0x82#8], [], drawing [0],
      drawing [], rfl,
    by decide, by decide, ⟨rfl, rfl⟩, rfl, rfl, rfl, by decide, by decide +kernel, by decide +kernel⟩

/-- The same premises for the constructor `transfer`, with a read. -/
theorem witness_TransferSendsItsFrame_plain :
    encode (.transfer ⟨0x35#8, 0#1, 0#8, 1#8⟩) = .request 0x00200352#32 ∧ opField 0x00200352#32 = 0x2#4 ∧
      fieldsOf 0x00200352#32 = ⟨0x35#8, 0#1, 0#8, 1#8⟩ ∧ (sCfg e0).ready ∧ (sCfg e0).status.configured = true ∧
      (sCfg e0).xferMode = .single ∧ shapeOf 0x35#8 = some ((0#8 : Byte).toNat, (1#8 : Byte).toNat) ∧
      memRead [] 0x40 (0#8 : Byte).toNat (drawing [0, 0x02]) = ([], drawing [0, 0x02]) ∧
      busFrame vectorParams .bus ⟨0x35#8, none, [], (1#8 : Byte).toNat⟩ (drawing [0, 0x02]) = (⟨0#32, [0x02#8]⟩,
          drawing []) :=
  ⟨by decide, by decide, by decide, ⟨rfl, rfl⟩, rfl, rfl, by decide, by decide, by decide +kernel⟩

theorem witness_PseudoTransfersComplete :
    (sCfg e0).ready ∧ (sCfg e0).status.configured = true ∧ (sCfg e0).xferMode = .single ∧
      Env.reads vectorParams .bus rdsr1Frame [0xFF#8] (drawing (readDraws [0xFF#8] ++ [])) (drawing []) ∧
      Env.reads vectorParams .bus rdsr2Frame [0x00#8] (drawing (readDraws [0x00#8] ++ [])) (drawing []) ∧
      Env.reads vectorParams .bus rdsr3Frame [0x60#8] (drawing (readDraws [0x60#8] ++ [])) (drawing []) ∧
      Env.acks vectorParams .bus wrenFrame (drawing [0]) (drawing []) ∧
      readPayload [] 0x40 (drawing [0x82, 0]) = (0x82#8, drawing [0]) ∧
      Env.acks vectorParams .bus (wrsr1Frame 0x82#8) (drawing [0]) (drawing []) :=
  ⟨⟨rfl, rfl⟩, rfl, rfl, reads_drawing _ _ _ rfl _ _ _, reads_drawing _ _ _ rfl _ _ _, reads_drawing _ _ _ rfl _ _ _,
    acks_drawing _ _ _ rfl _ _, by decide, acks_drawing _ _ _ rfl _ _⟩

theorem witness_TransferWithFailedFrame :
    ∃ (s : State) (f : Fields) (tx : List Byte) (st : Word) (e e' : Env),
      encode .transferWren = .request 0x00000062#32 ∧ opField 0x00000062#32 = 0x2#4 ∧ fieldsOf 0x00000062#32 = f ∧ s.ready ∧
        s.status.configured = true ∧ s.xferMode = .single ∧ f.ap = 0#1 ∧ shapeOf f.arg = some (f.nw.toNat, f.nr.toNat) ∧
        memRead s.txbuf 0x40 f.nw.toNat s.env = (tx, e) ∧
        Env.fails s.params s.latchRole ⟨f.arg, none, tx, f.nr.toNat⟩ st e e' :=
  ⟨sCfg (drawing [0xFFFFFFFF]), ⟨0x06#8, 0#1, 0#8, 0#8⟩, [], 0xFFFFFFFF#32, drawing [0xFFFFFFFF], drawing [], rfl, by decide,
    by decide, ⟨rfl, rfl⟩, rfl, rfl, rfl, by decide, rfl, fails_drawing _ _ _ _ (by decide) _ _⟩

/-- One malformed descriptor for each case of R111: a reserved opcode, payloads past the bound, an address, both payloads, and
another opcode's shape. -/
theorem witness_MalformedTransferSendsNothing :
    (sCfg e0).ready ∧ (sCfg e0).status.configured = true ∧
      (encode (.transfer ⟨0x00#8, 0#1, 0#8, 0#8⟩) = .request 0x00000002#32 ∧
        0x00#8 ∉ [0x05#8, 0x35#8, 0x15#8, 0x06#8, 0x01#8]) ∧
      (encode (.transfer ⟨0x01#8, 0#1, 2#8, 0#8⟩) = .request 0x00004012#32 ∧ vectorParams.maxPayload < (2#8).toNat) ∧
      (encode (.transfer ⟨0x05#8, 0#1, 0#8, 255#8⟩) = .request 0x1FE00052#32 ∧ vectorParams.maxPayload < (255#8).toNat) ∧
      encode (.transfer ⟨0x05#8, 1#1, 0#8, 1#8⟩) = .request 0x00201052#32 ∧
      encode (.transfer ⟨0x01#8, 0#1, 1#8, 1#8⟩) = .request 0x00202012#32 ∧
      (encode (.transfer ⟨0x05#8, 0#1, 0#8, 0#8⟩) = .request 0x00000052#32 ∧
        (0x05#8, 0#8, 0#8) ∉ [(0x05#8, 0#8, 1#8), (0x35#8, 0#8, 1#8), (0x15#8, 0#8, 1#8), (0x06#8, 0#8, 0#8),
          (0x01#8, 1#8, 0#8)]) :=
  ⟨⟨rfl, rfl⟩, rfl, by decide, by decide, by decide, by decide, by decide, by decide⟩

theorem witness_WireCommandsComplete :
    (sCfg e0).xferMode = .single ∧
      Env.reads vectorParams .bus rdsr1Frame [0xFF#8] (drawing (readDraws [0xFF#8] ++ [])) (drawing []) ∧
      Env.reads vectorParams .bus rdsr2Frame [0xFF#8] (drawing (readDraws [0xFF#8] ++ [])) (drawing []) ∧
      Env.reads vectorParams .bus rdsr3Frame [0xFF#8] (drawing (readDraws [0xFF#8] ++ [])) (drawing []) ∧
      Env.acks vectorParams .bus wrenFrame (drawing [0]) (drawing []) ∧
      Env.acks vectorParams .bus (wrsr1Frame 0xFF#8) (drawing [0]) (drawing []) :=
  ⟨rfl, reads_drawing _ _ _ rfl _ _ _, reads_drawing _ _ _ rfl _ _ _, reads_drawing _ _ _ rfl _ _ _,
    acks_drawing _ _ _ rfl _ _, acks_drawing _ _ _ rfl _ _⟩

theorem witness_WireCommandWithFailedFrame :
    (Instr.wrsr1 3#8, wrsr1Frame 3#8) ∈ [(.rdsr1, rdsr1Frame), (.rdsr2, rdsr2Frame), (.rdsr3, rdsr3Frame), (.wren,
        wrenFrame),
      (.wrsr1 3#8, wrsr1Frame 3#8)] ∧ (sCfg (drawing [1])).xferMode = .single ∧
      Env.fails vectorParams .bus (wrsr1Frame 3#8) 1#32 (drawing [1]) (drawing []) :=
  ⟨by decide, rfl, fails_drawing _ _ _ _ (by decide) _ _⟩

theorem witness_ReadPayloadGoesToRxbuf :
    (sCfg e0).xferMode = .single ∧ rdsr1Frame.admitted = true ∧ ((sCfg e0).reply rdsr1Frame).st = 0#32 ∧ 0 < rdsr1Frame.nr ∧
      wrenFrame.nr = 0 ∧ ((sCfg (failing e0 1 5#32)).reply rdsr1Frame).st ≠ 0#32 := by decide +kernel

theorem witness_EnvironmentGivesEveryReply :
    (rdsr1Frame.admitted = true ∧ (busFrame vectorParams .bus rdsr1Frame e0).1.st = 0#32) ∧
      ((0#32 = 0#32 → [0xFF#8].length = rdsr1Frame.nr) ∧ (0#32 ≠ 0#32 → [0xFF#8] = [])) ∧
      ((5#32 = 0#32 → ([] : List Byte).length = rdsr1Frame.nr) ∧ (5#32 ≠ 0#32 → ([] : List Byte) = [])) := by decide +kernel

/-! ### Witnesses: the sequencers -/

/-- A wait that is ready at its first read, in the normative environment. -/
theorem ready_at_once (p : Params) (l : LineRole) (b : Byte) (hb : busy b = false) (ds : List Word) :
    (⟨[], b⟩ : ReadyWait).holds p l (drawing (readDraws [b] ++ ds)) (drawing ds) :=
  ⟨by simp, hb, by simp, reads_drawing p l _ rfl [b] ds 0⟩

/-- k = 1, and k = 10000, the last read allowed. -/
theorem witness_WaitReadyCompletes :
    (sCfg (drawing (readDraws [0xFE#8] ++ []))).ready ∧ (sCfg e0).status.configured = true ∧ (sCfg e0).xferMode = .single ∧
      (⟨[], 0xFE#8⟩ : ReadyWait).holds vectorParams .bus (drawing (readDraws [0xFE#8] ++ [])) (drawing []) ∧
      (⟨List.replicate 9999 1#8, 0#8⟩ : ReadyWait).holds vectorParams .bus
        (drawing (readDraws (List.replicate 9999 1#8 ++ [0#8]) ++ [])) (drawing []) := by
  refine ⟨⟨rfl, rfl⟩, rfl, rfl, ready_at_once _ _ _ rfl _, ?_, rfl, ?_, reads_drawing _ _ _ rfl _ _ _⟩
  · intro b hb
    rw [List.eq_of_mem_replicate hb]
    rfl
  · exact Nat.le_of_eq (congrArg Nat.succ List.length_replicate)

theorem busy_replicate (n : Nat) : ∀ x ∈ List.replicate n 1#8 ++ [1#8], busy x = true := by
  intro x hx
  rcases List.mem_append.mp hx with h | h
  · rw [List.eq_of_mem_replicate h]
    rfl
  · rw [List.mem_singleton.mp h]
    rfl

theorem witness_WaitReadyTimesOut :
    (sCfg (drawing (readDraws (List.replicate 9999 1#8 ++ [1#8]) ++ []))).ready ∧ (sCfg e0).status.configured = true ∧
      (sCfg e0).xferMode = .single ∧ (List.replicate 9999 1#8).length = 9999 ∧
      (∀ x ∈ List.replicate 9999 1#8 ++ [1#8], busy x = true) ∧
      Env.reads vectorParams .bus rdsr1Frame (List.replicate 9999 1#8 ++ [1#8])
        (drawing (readDraws (List.replicate 9999 1#8 ++ [1#8]) ++ [])) (drawing []) :=
  ⟨⟨rfl, rfl⟩, rfl, rfl, List.length_replicate, busy_replicate _, reads_drawing _ _ _ rfl _ _ _⟩

/-- k = 1, and k = 2. -/
theorem witness_WaitReadyStopsAtTransportError :
    (sCfg (drawing [5])).ready ∧ (sCfg e0).status.configured = true ∧ (sCfg e0).xferMode = .single ∧
      (Env.reads vectorParams .bus rdsr1Frame [] (drawing [5]) (drawing [5]) ∧
        Env.fails vectorParams .bus rdsr1Frame 5#32 (drawing [5]) (drawing [])) ∧
      ((∀ x ∈ [1#8], busy x = true) ∧
        Env.reads vectorParams .bus rdsr1Frame [1#8] (drawing (readDraws [1#8] ++ [5])) (drawing [5])) :=
  ⟨⟨rfl, rfl⟩, rfl, rfl, ⟨rfl, fails_drawing _ _ _ _ (by decide) _ _⟩, by decide, reads_drawing _ _ _ rfl _ _ _⟩

/-- A handshake of an idle flash whose verification read answers v. -/
def handshake (v : Byte) : Handshake := ⟨⟨[], 0x9C#8⟩, ⟨[], 0x9E#8⟩, v⟩

/-- The draws for such a handshake. -/
def handshakeDraws (v : Byte) : List Word := readDraws [0x9C#8] ++ ([0] ++ (readDraws [0x9E#8] ++ readDraws [v]))

theorem handshake_holds (p : Params) (l : LineRole) (v : Byte) (ds : List Word) :
    (handshake v).holds p l (drawing (handshakeDraws v ++ ds)) (drawing ds) := by
  refine ⟨drawing ([0] ++ (readDraws [0x9E#8] ++ readDraws [v]) ++ ds), drawing (readDraws [0x9E#8] ++ readDraws [v] ++ ds),
    drawing (readDraws [v] ++ ds), ?_, acks_drawing _ _ _ rfl _ _, ?_, reads_drawing _ _ _ rfl _ _ _⟩
  · rw [handshakeDraws, List.append_assoc]
    exact ready_at_once _ _ _ rfl _
  · rw [List.append_assoc]
    exact ready_at_once _ _ _ rfl _

theorem witness_EnableWriteCompletes :
    (sCfg (drawing (handshakeDraws 0x9E#8 ++ []))).ready ∧ (sCfg e0).status.configured = true ∧ (sCfg e0).xferMode =
        .single ∧
      (handshake 0x9E#8).holds vectorParams .bus (drawing (handshakeDraws 0x9E#8 ++ [])) (drawing []) ∧
      (handshake 0x9E#8).latched vectorParams :=
  ⟨⟨rfl, rfl⟩, rfl, rfl, handshake_holds _ _ _ _, fun _ => by decide⟩

theorem witness_EnableWriteWithClearLatch :
    (sCfg (drawing (handshakeDraws 0x9C#8 ++ []))).ready ∧ (sCfg e0).status.configured = true ∧ (sCfg e0).xferMode =
        .single ∧
      (handshake 0x9C#8).holds vectorParams .bus (drawing (handshakeDraws 0x9C#8 ++ [])) (drawing []) ∧
      vectorParams.welCheck = true ∧ welSet vectorParams.srLayout (handshake 0x9C#8).latch = false :=
  ⟨⟨rfl, rfl⟩, rfl, rfl, handshake_holds _ _ _ _, rfl, by decide⟩

theorem witness_WrenOnlyAfterReadyRead :
    ∃ (t : State) (early after : List Event) (r : Event), (Instr.enableWrite noFields).handshakes = true ∧ (sCfg e0).ready ∧
      exec (.enableWrite noFields) (sCfg e0) = .next t ∧ newEvents (sCfg e0) t = (early ++ [r]) ++ wrenEvent :: after ∧
      wrenEvent.isFrameOf 0x06#8 = true :=
  ⟨_, [], [readEvent 0x05#8 0x9E#8, readEvent 0x05#8 0x9E#8, .done 4#4 0#4], readEvent 0x05#8 0x9C#8, rfl, ⟨rfl, rfl⟩, rfl,
    by decide +kernel, rfl⟩

/-- The snapshot reads of a flash. -/
theorem triple_holds (p : Params) (l : LineRole) (b : Triple) (ds : List Word) :
    b.holds p l (drawing (readDraws [b.b1] ++ (readDraws [b.b2] ++ (readDraws [b.b3] ++ ds)))) (drawing ds) :=
  ⟨_, _, reads_drawing _ _ _ rfl _ _ _, reads_drawing _ _ _ rfl _ _ _, reads_drawing _ _ _ rfl _ _ _⟩

theorem witness_ReadDecodeCompletes :
    (sCfg e0).ready ∧ (sCfg e0).status.configured = true ∧ (sCfg e0).xferMode = .single ∧
      (⟨0xFF#8, 0x00#8, 0x60#8⟩ : Triple).holds vectorParams .bus
        (drawing (readDraws [0xFF#8] ++ (readDraws [0x00#8] ++ (readDraws [0x60#8] ++ [])))) (drawing []) :=
  ⟨⟨rfl, rfl⟩, rfl, rfl, triple_holds _ _ _ _⟩

theorem witness_ReadDecodeWithFailedRead :
    (sCfg e0).ready ∧ (sCfg e0).status.configured = true ∧ (sCfg e0).xferMode = .single ∧
      Env.fails vectorParams .bus rdsr1Frame 4#32 (drawing [4]) (drawing []) ∧
      (Env.reads vectorParams .bus rdsr1Frame [1#8] (drawing (readDraws [1#8] ++ [4])) (drawing [4]) ∧
        Env.fails vectorParams .bus rdsr2Frame 4#32 (drawing [4]) (drawing [])) ∧
      (Env.reads vectorParams .bus rdsr1Frame [1#8] (drawing (readDraws [1#8] ++ (readDraws [2#8] ++ [4])))
          (drawing (readDraws [2#8] ++ [4])) ∧
        Env.reads vectorParams .bus rdsr2Frame [2#8] (drawing (readDraws [2#8] ++ [4])) (drawing [4]) ∧
        Env.fails vectorParams .bus rdsr3Frame 4#32 (drawing [4]) (drawing [])) :=
  ⟨⟨rfl, rfl⟩, rfl, rfl, fails_drawing _ _ _ _ (by decide) _ _,
    ⟨reads_drawing _ _ _ rfl _ _ _, fails_drawing _ _ _ _ (by decide) _ _⟩,
    reads_drawing _ _ _ rfl _ _ _, reads_drawing _ _ _ rfl _ _ _, fails_drawing _ _ _ _ (by decide) _ _⟩

theorem witness_ReleaseLatchCompletes :
    (sCfg e0).ready ∧ (sCfg e0).status.configured = true ∧ (sCfg e0).status.latchReleased = false := ⟨⟨rfl, rfl⟩, rfl, rfl⟩

/-- A protection reset of an idle flash. -/
def clearing : Clearing := ⟨⟨[], 0x9C#8⟩, handshake 0x9E#8, ⟨[], 0x00#8⟩⟩

/-- The draws for it. -/
def clearingDraws : List Word := readDraws [0x9C#8] ++ (handshakeDraws 0x9E#8 ++ ([0] ++ readDraws [0x00#8]))

theorem clearing_holds (p : Params) (l : LineRole) (ds : List Word) :
    clearing.holds p l (drawing (clearingDraws ++ ds)) (drawing ds) := by
  refine ⟨drawing (handshakeDraws 0x9E#8 ++ ([0] ++ readDraws [0x00#8] ++ ds)), drawing ([0] ++ readDraws [0x00#8] ++ ds),
    drawing (readDraws [0x00#8] ++ ds), ?_, handshake_holds _ _ _ _, acks_drawing _ _ _ rfl _ _, ready_at_once _ _ _ rfl _⟩
  simp only [clearingDraws, List.append_assoc]
  exact ready_at_once _ _ _ rfl _

theorem witness_ResetProtectionCompletes :
    (sCfg (drawing (clearingDraws ++ []))).ready ∧ (sCfg e0).status.configured = true ∧ (sCfg e0).xferMode = .single ∧
      clearing.holds vectorParams .bus (drawing (clearingDraws ++ [])) (drawing []) ∧ clearing.enable.latched vectorParams :=
  ⟨⟨rfl, rfl⟩, rfl, rfl, clearing_holds _ _ _, fun _ => by decide⟩

theorem witness_WriteOnlyAfterVerifiedWren :
    ∃ (t : State) (before after : List Event), (Instr.resetProtection noFields).clears = true ∧ (sCfg e0).ready ∧
      exec (.resetProtection noFields) (sCfg e0) = .next t ∧ newEvents (sCfg e0) t = before ++ wrsr1Event :: after ∧
      wrsr1Event.isFrameOf 0x01#8 = true :=
  ⟨_, [readEvent 0x05#8 0x9C#8, readEvent 0x05#8 0x9C#8, wrenEvent, readEvent 0x05#8 0x9E#8, readEvent 0x05#8 0x9E#8],
    [readEvent 0x05#8 0x9E#8, .done 7#4 0#4], rfl, ⟨rfl, rfl⟩, rfl, by decide +kernel, rfl⟩

/-! ### Witnesses: RUN_RECOVERY -/

/-- A recovery whose last snapshot reads b1 in SR1. -/
def recovery (b1 : Byte) : Recovery := ⟨⟨[], 0x9C#8⟩, handshake 0x9E#8, clearing, ⟨b1, 0x02#8, 0x60#8⟩⟩

/-- The draws for it. -/
def recoveryDraws (b1 : Byte) : List Word :=
  readDraws [0x9C#8] ++ (handshakeDraws 0x9E#8 ++ (clearingDraws ++
    (readDraws [b1] ++ (readDraws [0x02#8] ++ (readDraws [0x60#8] ++ [])))))

theorem recovery_holds (p : Params) (l : LineRole) (b1 : Byte) :
    (recovery b1).holds p l (drawing (recoveryDraws b1)) (drawing []) :=
  ⟨_, _, _, ready_at_once _ _ _ rfl _, handshake_holds _ _ _ _, clearing_holds _ _ _, triple_holds _ _ _ _⟩

/-- The fresh state with those draws. -/
def sFresh (b1 : Byte) : State := sReset (drawing (recoveryDraws b1))

theorem witness_RunRecoveryReachesVerified :
    (sFresh 0x02#8).ready ∧ (sFresh 0x02#8).status.orch = 0#3 ∧ (sFresh 0x02#8).status.configured = false ∧
      (sFresh 0x02#8).status.latchReleased = false ∧
      readOperand (sFresh 0x02#8).freq (sFresh 0x02#8).env = (0xF0#32, drawing (recoveryDraws 0x02#8)) ∧
      vectorParams.legalAw.admits (aw24.arg.setWidth 32) = true ∧ vectorParams.legalFreq.contains 0xF0#32 = true ∧
      (recovery 0x02#8).holds vectorParams .bus (drawing (recoveryDraws 0x02#8)) (drawing []) ∧
      (recovery 0x02#8).enable.latched vectorParams ∧ (recovery 0x02#8).clearing.enable.latched vectorParams ∧
      stillProtected vectorParams.srLayout (recovery 0x02#8).snapshot.b1 = false :=
  ⟨⟨rfl, rfl⟩, rfl, rfl, rfl, rfl, by decide, by decide, recovery_holds _ _ _, fun _ => by decide, fun _ => by decide,
      by decide⟩

theorem witness_RunRecoveryFindsProtectionStillSet :
    (sFresh 0x9E#8).ready ∧ (sFresh 0x9E#8).status.orch = 0#3 ∧ (sFresh 0x9E#8).status.configured = false ∧
      (sFresh 0x9E#8).status.latchReleased = false ∧
      readOperand (sFresh 0x9E#8).freq (sFresh 0x9E#8).env = (0xF0#32, drawing (recoveryDraws 0x9E#8)) ∧
      vectorParams.legalAw.admits (aw24.arg.setWidth 32) = true ∧ vectorParams.legalFreq.contains 0xF0#32 = true ∧
      (recovery 0x9E#8).holds vectorParams .bus (drawing (recoveryDraws 0x9E#8)) (drawing []) ∧
      (recovery 0x9E#8).enable.latched vectorParams ∧ (recovery 0x9E#8).clearing.enable.latched vectorParams ∧
      vectorParams.verifyCheck = true ∧ stillProtected vectorParams.srLayout (recovery 0x9E#8).snapshot.b1 = true :=
  ⟨⟨rfl, rfl⟩, rfl, rfl, rfl, rfl, by decide, by decide, recovery_holds _ _ _, fun _ => by decide, fun _ => by decide, rfl,
    by decide⟩

theorem witness_RunRecoveryNeedsFreshState :
    ((sCfg e0).ready ∧ (sCfg e0).status.configured = true) ∧
      ({ sReset e0 with status := ⟨false, false, false, false, false, 0#3, 7#3⟩ } : State).status.orch ≠ 0#3 :=
  ⟨⟨⟨rfl, rfl⟩, rfl⟩, by decide⟩

theorem witness_RunRecoveryWithIllegalFormatAborts :
    ∃ cst e', (sReset e0).ready ∧ (sReset e0).status.orch = 0#3 ∧ (sReset e0).status.configured = false ∧
      readOperand (sReset e0).freq (sReset e0).env = (0xF0#32, e0) ∧
      transportConfigure vectorParams ((⟨40#8, 0#1, 0#8, 0#8⟩ : Fields).arg.setWidth 32) 0xF0#32 e0 = (cst, e') ∧
      vectorParams.legalAw.admits ((⟨40#8, 0#1, 0#8, 0#8⟩ : Fields).arg.setWidth 32) = false :=
  ⟨_, _, ⟨rfl, rfl⟩, rfl, rfl, rfl, rfl, by decide⟩

theorem witness_RunRecoveryOnBusyFlashAborts :
    (sReset (drawing (readDraws (List.replicate 9999 1#8 ++ [1#8]) ++ []))).ready ∧
      (sReset e0).status.orch = 0#3 ∧ (sReset e0).status.configured = false ∧
      readOperand (sReset e0).freq (drawing (readDraws (List.replicate 9999 1#8 ++ [1#8]) ++ [])) =
        (0xF0#32, drawing (readDraws (List.replicate 9999 1#8 ++ [1#8]) ++ [])) ∧
      vectorParams.legalAw.admits (aw24.arg.setWidth 32) = true ∧ vectorParams.legalFreq.contains 0xF0#32 = true ∧
      (List.replicate 9999 1#8).length = 9999 ∧ (∀ x ∈ List.replicate 9999 1#8 ++ [1#8], busy x = true) ∧
      Env.reads vectorParams .bus rdsr1Frame (List.replicate 9999 1#8 ++ [1#8])
        (drawing (readDraws (List.replicate 9999 1#8 ++ [1#8]) ++ [])) (drawing []) :=
  ⟨⟨rfl, rfl⟩, rfl, rfl, rfl, by decide, by decide, List.length_replicate, busy_replicate _, reads_drawing _ _ _ rfl _ _ _⟩

theorem witness_RunRecoveryEndings :
    ∃ t : State, State.reset.Inv ∧ State.reset.ready ∧ State.reset.status.orch = 0#3 ∧ State.reset.status.configured =
        false ∧
      exec (.runRecovery aw24) State.reset = .next t :=
  ⟨_, witness_EveryStepKeepsInvariant.1, ⟨rfl, rfl⟩, rfl, rfl, rfl⟩

theorem witness_ResultCodesOfEachOperation :
    ∃ t : State, encode .transferWren = .request 0x00000062#32 ∧ (sCfg e0).ready ∧ exec .transferWren (sCfg e0) = .next t :=
  ⟨_, rfl, ⟨rfl, rfl⟩, rfl⟩

/-! ### Witnesses: sequences that stop midway -/

/-- The parts of RUN_RECOVERY's write sequences, done at once, but for the last wait. -/
def parts : List Part :=
  [.wait ⟨[], 0x9C#8⟩, .wren, .wait ⟨[], 0x9E#8⟩, .latch 0x9E#8, .wait ⟨[], 0x9E#8⟩, .wait ⟨[], 0x9E#8⟩, .wren,
    .wait ⟨[], 0x9E#8⟩, .latch 0x9E#8, .clear]

/-- The draws for a part. -/
def partDraws : Part → List Word
  | .wait w => readDraws (w.busyOnes ++ [w.ready])
  | .wren => [0]
  | .latch b => readDraws [b]
  | .clear => [0]

theorem parts_hold (p : Params) (l : LineRole) (xs : List Part)
    (hx : ∀ x ∈ xs, x ∈ parts) (hl : p.srLayout = SrLayout.standard) (ds : List Word) :
    partsHold p l xs (drawing (xs.flatMap partDraws ++ ds)) (drawing ds) := by
  induction xs with
  | nil => rfl
  | cons x xs ih =>
    refine ⟨drawing (xs.flatMap partDraws ++ ds), ?_, ih fun y hy => hx y (List.mem_cons_of_mem x hy)⟩
    rw [List.flatMap_cons, List.append_assoc]
    have hm := hx x (List.mem_cons_self ..)
    simp only [parts, List.mem_cons, List.not_mem_nil, or_false] at hm
    rcases hm with rfl | rfl | rfl | rfl | rfl | rfl | rfl | rfl | rfl | rfl <;>
      first
      | exact ready_at_once _ _ _ rfl _
      | exact acks_drawing _ _ _ rfl _ _
      | exact ⟨reads_drawing _ _ _ rfl _ _ _, fun _ => by rw [hl]; decide⟩

/-- The environment that then answers a wait busy to its end. -/
def busyEnv : Env := drawing (readDraws (List.replicate 9999 1#8 ++ [1#8]) ++ [])

/-- The environment that answers the parts xs well, and then a wait busy to its end. -/
def timeoutEnv (xs : List Part) : Env :=
  drawing (xs.flatMap partDraws ++ (readDraws (List.replicate 9999 1#8 ++ [1#8]) ++ []))

/-- The environment that answers the parts xs well, and then a read with the latch clear. -/
def clearEnv (xs : List Part) : Env := drawing (xs.flatMap partDraws ++ (readDraws [0x9C#8] ++ []))

theorem busyEnv_reads (l : LineRole) :
    Env.reads vectorParams l rdsr1Frame (List.replicate 9999 1#8 ++ [1#8]) busyEnv (drawing []) :=
  reads_drawing _ _ _ rfl _ _ _

/-- ENABLE_WRITE's and RESET_PROTECTION's first and last wait. -/
theorem witness_SequencesStopAtTimeout :
    ((sCfg e0).ready ∧ (sCfg e0).status.configured = true ∧ (sCfg e0).xferMode = .single ∧
      (List.replicate 9999 1#8).length = 9999 ∧ (∀ x ∈ List.replicate 9999 1#8 ++ [1#8], busy x = true) ∧
      Env.reads vectorParams .bus rdsr1Frame (List.replicate 9999 1#8 ++ [1#8]) busyEnv (drawing [])) ∧
      ([].map Part.kind ++ .wait :: enableWriteParts.drop 1 = enableWriteParts ∧
        partsHold vectorParams .bus [] (timeoutEnv []) busyEnv) ∧
      ((parts.take 2).map Part.kind ++ .wait :: enableWriteParts.drop 3 = enableWriteParts ∧
        partsHold vectorParams .bus (parts.take 2) (timeoutEnv (parts.take 2)) busyEnv) ∧
      [].map Part.kind ++ .wait :: resetProtectionParts.drop 1 = resetProtectionParts ∧
        (parts.drop 4).map Part.kind ++ .wait :: [] = resetProtectionParts ∧
        partsHold vectorParams .bus (parts.drop 4) (timeoutEnv (parts.drop 4)) busyEnv :=
  ⟨⟨⟨rfl, rfl⟩, rfl, rfl, List.length_replicate, busy_replicate _, busyEnv_reads _⟩, ⟨rfl, rfl⟩,
    ⟨rfl, parts_hold _ _ _ (by decide) rfl _⟩, rfl, rfl, parts_hold _ _ _ (by decide) rfl _⟩

/-- RUN_RECOVERY's second wait and its last. -/
theorem witness_SequencesStopAtTimeout_recovery :
    ((sReset e0).ready ∧ (sReset e0).status.orch = 0#3 ∧ (sReset e0).status.configured = false ∧
      (sReset e0).status.latchReleased = false ∧ readOperand (sReset e0).freq (timeoutEnv parts) = (0xF0#32, timeoutEnv parts) ∧
      vectorParams.legalAw.admits (aw24.arg.setWidth 32) = true ∧ vectorParams.legalFreq.contains 0xF0#32 = true ∧
      Env.reads vectorParams .passiveIn rdsr1Frame (List.replicate 9999 1#8 ++ [1#8]) busyEnv (drawing [])) ∧
      (⟨[], 0x9C#8⟩ : ReadyWait).holds vectorParams .bus (timeoutEnv [.wait ⟨[], 0x9C#8⟩]) busyEnv ∧
      [].map Part.kind ++ .wait :: (enableWriteParts ++ resetProtectionParts).drop 1 =
        enableWriteParts ++ resetProtectionParts ∧
      partsHold vectorParams .passiveIn [] busyEnv busyEnv ∧
      (⟨[], 0x9C#8⟩ : ReadyWait).holds vectorParams .bus (timeoutEnv (.wait ⟨[], 0x9C#8⟩ :: parts)) (timeoutEnv parts) ∧
      parts.map Part.kind ++ .wait :: [] = enableWriteParts ++ resetProtectionParts ∧
      partsHold vectorParams .passiveIn parts (timeoutEnv parts) busyEnv :=
  ⟨⟨⟨rfl, rfl⟩, rfl, rfl, rfl, rfl, by decide, by decide, busyEnv_reads _⟩, ready_at_once _ _ _ rfl _, rfl, rfl,
    ready_at_once _ _ _ rfl _, rfl, parts_hold _ _ _ (fun _ h => h) rfl _⟩

/-- RESET_PROTECTION's verification read, and both of RUN_RECOVERY's. -/
theorem witness_SequencesStopAtClearLatch :
    ((sCfg e0).ready ∧ (sCfg e0).status.configured = true ∧ (sCfg e0).xferMode = .single ∧
      vectorParams.welCheck = true ∧ welSet vectorParams.srLayout 0x9C#8 = false ∧
      Env.reads vectorParams .bus rdsr1Frame [0x9C#8] (clearEnv []) (drawing []) ∧
      ((parts.take 8).drop 4).map Part.kind ++ .latch :: resetProtectionParts.drop 5 = resetProtectionParts ∧
      partsHold vectorParams .bus ((parts.take 8).drop 4) (clearEnv ((parts.take 8).drop 4)) (clearEnv [])) ∧
      ((sReset e0).ready ∧ (sReset e0).status.orch = 0#3 ∧ (sReset e0).status.configured = false ∧
        (sReset e0).status.latchReleased = false ∧ readOperand (sReset e0).freq (clearEnv []) = (0xF0#32, clearEnv []) ∧
        vectorParams.legalAw.admits (aw24.arg.setWidth 32) = true ∧ vectorParams.legalFreq.contains 0xF0#32 = true ∧
        Env.reads vectorParams .passiveIn rdsr1Frame [0x9C#8] (clearEnv []) (drawing [])) ∧
      ((⟨[], 0x9C#8⟩ : ReadyWait).holds vectorParams .bus (clearEnv (.wait ⟨[], 0x9C#8⟩ :: parts.take 3))
          (clearEnv (parts.take 3)) ∧
        (parts.take 3).map Part.kind ++ .latch :: (enableWriteParts ++ resetProtectionParts).drop 4 =
          enableWriteParts ++ resetProtectionParts ∧
        partsHold vectorParams .passiveIn (parts.take 3) (clearEnv (parts.take 3)) (clearEnv [])) ∧
      (⟨[], 0x9C#8⟩ : ReadyWait).holds vectorParams .bus (clearEnv (.wait ⟨[], 0x9C#8⟩ :: parts.take 8))
        (clearEnv (parts.take 8)) ∧
      (parts.take 8).map Part.kind ++ .latch :: (enableWriteParts ++ resetProtectionParts).drop 9 =
        enableWriteParts ++ resetProtectionParts ∧
      partsHold vectorParams .passiveIn (parts.take 8) (clearEnv (parts.take 8)) (clearEnv []) :=
  ⟨⟨⟨rfl, rfl⟩, rfl, rfl, rfl, by decide, reads_drawing _ _ _ rfl _ _ _, rfl, parts_hold _ _ _ (by decide) rfl _⟩,
    ⟨⟨rfl, rfl⟩, rfl, rfl, rfl, rfl, by decide, by decide, reads_drawing _ _ _ rfl _ _ _⟩,
    ⟨ready_at_once _ _ _ rfl _, rfl, parts_hold _ _ _ (by decide) rfl _⟩, ready_at_once _ _ _ rfl _, rfl,
    parts_hold _ _ _ (by decide) rfl _⟩

end Sys2Proof.Tests
end

section
/-! The address widths of `LEGAL_AW` (SPEC 00_scope.md, R7). -/
namespace Sys2Proof.Config

/-- The four widths a `LEGAL_AW` can hold, each under its own flag. -/
theorem LegalAw.admits_iff (l : LegalAw) (aw : Word) :
    l.admits aw = true ↔
      aw = 8#32 ∧ l.w8 = true ∨ aw = 16#32 ∧ l.w16 = true ∨ aw = 24#32 ∧ l.w24 = true ∨ aw = 32#32 ∧ l.w32 = true := by
  simp only [LegalAw.admits, Bool.or_eq_true, Bool.and_eq_true, beq_iff_eq, or_assoc]

/-- Settles O28: an admitted width is one of 8, 16, 24 and 32, and R7's three bounds hold of each. -/
theorem legalWidthsAreBounded : Obligations.LegalWidthsAreBounded := by
  intro l aw hadmits
  obtain ⟨rfl, -⟩ | ⟨rfl, -⟩ | ⟨rfl, -⟩ | ⟨rfl, -⟩ := (l.admits_iff aw).mp hadmits <;> decide

end Sys2Proof.Config
end

section
/-! The reset values of the block state (SPEC 10_state.md, R49). What R49 calls unspecified is unwritten storage, so each such
reset value is a law about reading unwritten storage. -/
namespace Sys2Proof.Machine

open Sys2Proof.Config

/-- A payload byte that nothing has written reads as the low byte of a draw (R49). -/
theorem readPayload_unwritten (m : Memory) (i : Nat) (e : Env) (h : m.read i = none) :
    readPayload m i e = (e.draw.1.setWidth 8, e.draw.2) := by
  simp only [readPayload, h]

/-- Every byte of an empty payload memory is unwritten. -/
@[simp] theorem readPayload_nil (i : Nat) (e : Env) : readPayload [] i e = (e.draw.1.setWidth 8, e.draw.2) :=
  readPayload_unwritten [] i e (Memory.read_nil i)

/-- The four operand registers that R49 leaves unspecified: ADDR and FREQ, and their latched copies. -/
theorem reset_operands_unwritten :
    State.reset.addr.written = false ∧ State.reset.freq.written = false ∧
      State.reset.lat.addr.written = false ∧ State.reset.lat.freq.written = false :=
  ⟨rfl, rfl, rfl, rfl⟩

/-- The three payload memories that R49 leaves unspecified: TXBUF and RXBUF, and the latched copy of TXBUF. -/
theorem reset_payloads_empty :
    State.reset.txbuf = [] ∧ State.reset.rxbuf = [] ∧ State.reset.lat.txbuf = [] :=
  ⟨rfl, rfl, rfl⟩

/-- R49's row for LINES: no data line is remapped at reset. -/
@[simp] theorem reset_lineRole_get (d : DataLine) : State.reset.lineRole.get d = .bus := by
  cases d <;> rfl

/-- Settles O22: the specified rows are fields of `State.reset` as they stand; the unspecified rows follow from the laws of
unwritten operands and payload bytes. -/
theorem resetValues : Obligations.ResetValues := by
  obtain ⟨haddr, hfreq, hlatAddr, hlatFreq⟩ := reset_operands_unwritten
  obtain ⟨htx, hrx, hlatTx⟩ := reset_payloads_empty
  have operands (e : Env) : readOperand State.reset.addr e = e.draw ∧ readOperand State.reset.freq e = e.draw :=
    ⟨readOperand_unwritten _ e haddr, readOperand_unwritten _ e hfreq⟩
  have latchedOperands (e : Env) :
      readOperand State.reset.lat.addr e = e.draw ∧ readOperand State.reset.lat.freq e = e.draw :=
    ⟨readOperand_unwritten _ e hlatAddr, readOperand_unwritten _ e hlatFreq⟩
  have payloads (i : Nat) (e : Env) : State.reset.txbuf.read i = none ∧ State.reset.rxbuf.read i = none ∧
      readPayload State.reset.txbuf i e = (e.draw.1.setWidth 8, e.draw.2) := by
    simp [htx, hrx]
  have latchedPayload (i : Nat) (e : Env) :
      readPayload State.reset.lat.txbuf i e = (e.draw.1.setWidth 8, e.draw.2) := by
    simp [hlatTx]
  exact ⟨rfl, rfl, rfl, rfl, rfl, rfl, rfl, rfl, rfl, operands, rfl, rfl, rfl, rfl, reset_lineRole_get, payloads,
    latchedOperands, latchedPayload, rfl, rfl, rfl⟩

end Sys2Proof.Machine
end

section
/-! The length of a wire frame (SPEC 30_encoding.md, R80 to R83 and R95; 70_reset_and_hazards.md, R309): how many bits each
phase puts on D0. -/
namespace Sys2Proof.Machine

@[simp] theorem length_wireBits (b : Byte) : (wireBits b).length = 8 := rfl

/-- The address phase has a clock for each bit of its bytes (R82). -/
@[simp] theorem length_addressBits (a : Word) (n : Nat) : (addressBits a n).length = 8 * n := by
  induction n with
  | zero => rfl
  | succ n ih =>
    simp only [addressBits, List.length_append, length_wireBits, ih]
    omega

/-- The payload phase has eight clocks for each byte (R83). -/
@[simp] theorem length_flatMap_wireBits (bs : List Byte) : (bs.flatMap wireBits).length = 8 * bs.length := by
  induction bs with
  | nil => rfl
  | cons b bs ih =>
    simp only [List.flatMap_cons, List.length_append, length_wireBits, ih, List.length_cons]
    omega

/-- The bits on D0 are the opcode's, the address's where there is one, and the write payload's (R80). -/
theorem WireFrame.length_outBits (f : WireFrame) (aw : Nat) (haw : aw % 8 = 0) :
    (f.outBits aw).length = 8 + (if f.addr.isSome then aw else 0) + 8 * f.tx.length := by
  obtain ⟨opc, addr, tx, nr⟩ := f
  have whole : 8 * (aw / 8) = aw := Nat.mul_div_cancel' (Nat.dvd_of_mod_eq_zero haw)
  simp only [WireFrame.outBits, List.length_append, length_wireBits, length_flatMap_wireBits]
  cases addr with
  | none => rfl
  | some a => simp [whole]

/-- R95's length counts the bits sent and the bits clocked in. -/
theorem WireFrame.clocks_eq_length_outBits (f : WireFrame) (aw : Nat) (haw : aw % 8 = 0) :
    f.clocks aw = (f.outBits aw).length + 8 * f.nr := by
  rw [f.length_outBits aw haw, WireFrame.clocks]
  omega

/-- A frame without an address takes the same clocks at every address width. -/
theorem WireFrame.clocks_of_no_address (f : WireFrame) (aw : Nat) (h : f.addr = none) :
    f.clocks aw = 8 + 8 * (f.tx.length + f.nr) := by
  simp [WireFrame.clocks, h]

/-- Settles O8: the bits of the three phases add up to R95's length, and none of the five commands has an address. -/
theorem frameLengthInClocks : Obligations.FrameLengthInClocks := by
  constructor
  · intro f aw haw
    have sent := f.clocks_eq_length_outBits aw haw
    exact ⟨sent.symm, sent⟩
  · intro v aw
    exact ⟨rdsr1Frame.clocks_of_no_address aw rfl, rdsr2Frame.clocks_of_no_address aw rfl,
      rdsr3Frame.clocks_of_no_address aw rfl, wrenFrame.clocks_of_no_address aw rfl,
      (wrsr1Frame v).clocks_of_no_address aw rfl⟩

end Sys2Proof.Machine
end

section
/-! The pseudo-instructions of a host program (SPEC 30_encoding.md section 5, R97 and R98): each goes through the TRANSFER it
expands to. -/
namespace Sys2Proof.Machine

/-- A statement's word is that of the TRANSFER it expands to; without an address AP is 0 and NW is the payload's length (R85,
R97). -/
theorem Statement.word_of_expand_transfer (st : Statement) (opc : Byte) (tx : List Byte) (nr : Byte)
    (h : st.expand = .transfer opc none tx nr) :
    st.word = requestWord 0x2#4 ⟨opc, 0#1, BitVec.ofNat 8 tx.length, nr⟩ := by
  rw [Statement.word, h]
  rfl

/-- A TRANSFER without an address assembles to its payload's writes, the REQ write and the wait (R97). -/
theorem Statement.assemble_of_expand_transfer (st : Statement) (opc : Byte) (tx : List Byte) (nr : Byte)
    (h : st.expand = .transfer opc none tx nr) :
    st.assemble = payloadWrites 0x40 tx ++ [.write 0x00 .word st.word, .await] := by
  simp [Statement.assemble, Statement.operandWrites, h]

/-- The word of `WRSR1 v` does not depend on v (R98). -/
theorem Statement.word_wrsr1 (v : Byte) : (Statement.wrsr1 v).word = 0x00002012#32 := by
  rw [Statement.word_of_expand_transfer _ 0x01#8 [v] 0#8 rfl, List.length_singleton]
  decide

/-- Settles O7: each row's expansion is by definition, and its word and text are those of the TRANSFER it expands to. -/
theorem pseudoInstructionWords : Obligations.PseudoInstructionWords := by
  intro v
  have text : (Statement.wrsr1 v).assemble =
      [.write 0x40 .byte (v.setWidth 32), .write 0x00 .word 0x00002012#32, .await] := by
    rw [Statement.assemble_of_expand_transfer _ 0x01#8 [v] 0#8 rfl, Statement.word_wrsr1]
    rfl
  exact ⟨⟨rfl, Statement.word_of_expand_transfer _ 0x05#8 [] 1#8 rfl⟩,
    ⟨rfl, Statement.word_of_expand_transfer _ 0x35#8 [] 1#8 rfl⟩,
    ⟨rfl, Statement.word_of_expand_transfer _ 0x15#8 [] 1#8 rfl⟩,
    ⟨rfl, Statement.word_of_expand_transfer _ 0x06#8 [] 0#8 rfl⟩, rfl, Statement.word_wrsr1 v, text⟩

end Sys2Proof.Machine
end

section
/-! Reserved request words (SPEC 30_encoding.md, R88 and R93): they decode to nothing, and an idle block accepts and rejects
them. -/
namespace Sys2Proof

/-- RSV, or an OP outside 0x1 to 0x8, makes a word decode to nothing (R93). -/
theorem decodeRequest_reserved (w : Word) (h : rsvField w ≠ 0#3 ∨ opField w = 0x0#4 ∨ 0x9#4 ≤ opField w) :
    ∃ e, decodeRequest w = .error e := by
  by_cases hrsv : rsvField w = 0#3
  · have hop : opField w = 0x0#4 ∨ 0x9#4 ≤ opField w := h.resolve_left (not_not_intro hrsv)
    simp only [decodeRequest, hrsv, ne_eq, not_true_eq_false, if_false]
    split
    case h_9 => exact ⟨_, rfl⟩
    all_goals bv_omega -- hop rules out the eight request operations
  · exact ⟨.reservedBits, if_pos hrsv⟩

end Sys2Proof

namespace Sys2Proof.Machine

open Sys2Proof.Config

/-- Index 0x00 names REQ, whatever the size of the buffers (R22). -/
@[simp] theorem hostIndex_req (p : Params) : hostIndex p 0x00 = .req := by
  have notTx : inTx p 0x00 = false := by simp [inTx]
  have notRx : inRx p 0x00 = false := by simp [inRx]
  simp [hostIndex, notTx, notRx, registerAt]

/-- A step of an idle block takes up the outside world's next act. -/
theorem fetch_idle (s : State) (a : Act) (rest : List Act) (hidle : s.status.active = false) (hport : s.port = a :: rest) :
    fetch s = fetchAct a { s with port := rest } := by
  simp [fetch, hidle, hport]

/-- A word that decodes to nothing is taken up as a reserved word (R93). -/
theorem fetchAct_req_error (w : Word) (s : State) (e : DecodeError) (h : decodeRequest w = .error e) :
    fetchAct (.write 0x00 .word w) s = .other (.next (reserved w s)) := by
  simp [fetchAct, h]

/-- A request accepted and rejected at once leaves the rejected request's state (R88, R89). -/
theorem reject_accept (w : Word) (ls : List Line) (s : State) : reject (accept w ls s) = s.rejected w := by
  simp only [State.rejected, State.ended, List.append_nil]
  rfl

/-- An idle block accepts a reserved word and rejects it at once (R88, R93). -/
theorem reserved_idle (w : Word) (s : State) (hidle : s.status.active = false) : reserved w s = s.rejected w := by
  rw [reserved, hidle, if_neg Bool.false_ne_true, reject_accept]

/-- Settles O13: the word decodes to nothing, so the step answers what a reserved word leaves at an idle block. -/
theorem reservedWordIsRejected : Obligations.ReservedWordIsRejected := by
  intro s w rest hidle hport hreserved
  obtain ⟨e, hdecode⟩ := decodeRequest_reserved w hreserved
  have hfetch : fetch s = .other (.next (reserved w { s with port := rest })) := by
    rw [fetch_idle s _ rest hidle hport, fetchAct_req_error w _ e hdecode]
  rw [step, hfetch, reserved_idle w { s with port := rest } hidle]

end Sys2Proof.Machine
end

section
/-! What the frame helper writes to RXBUF (SPEC 40_transport.md, R112 to R114): an admitted frame that succeeds brings exactly
the bytes it asks for, and only those reach RXBUF. -/
namespace Sys2Proof.Machine

open Sys2Proof.Config

/-! ### A run of bytes in a memory -/

/-- Inside a run of writes, each index reads as the byte that stands there in the run (R61). -/
theorem Memory.read_writeBytes_inside (m : Memory) (i k : Nat) (vs : List Byte) (hk : k < vs.length) :
    (m.writeBytes i vs).read (i + k) = vs[k]? := by
  induction vs generalizing m i k with
  | nil => exact absurd hk (Nat.not_lt_zero k)
  | cons v vs ih =>
    rw [Memory.writeBytes]
    cases k with
    | zero =>
      have before : i < i + 1 ∨ i + 1 + vs.length ≤ i := .inl (Nat.lt_succ_self i)
      exact ((m.write i v).read_writeBytes_outside (i + 1) i vs before).trans (m.read_write_same i v)
    | succ k =>
      have shifted : i + (k + 1) = i + 1 + k := by omega
      rw [shifted, ih (m.write i v) (i + 1) k (Nat.lt_of_succ_lt_succ hk), List.getElem?_cons_succ]

/-! ### The admitted frames and their answers -/

/-- The admitted frames are the five wire commands (R90, R91). -/
theorem WireFrame.eq_of_admitted (f : WireFrame) (h : f.admitted = true) :
    f = rdsr1Frame ∨ f = rdsr2Frame ∨ f = rdsr3Frame ∨ f = wrenFrame ∨ ∃ v, f = wrsr1Frame v := by
  obtain ⟨opc, addr, tx, nr⟩ := f
  simp only [WireFrame.admitted, Bool.and_eq_true, decide_eq_true_eq] at h
  obtain ⟨rfl, hshape⟩ := h
  unfold shapeOf at hshape
  split at hshape
  case h_6 => cases hshape
  all_goals
    rename_i hopc
    simp only [Option.some.injEq, Prod.mk.injEq] at hshape
    obtain ⟨hlen, rfl⟩ := hshape
  case h_1 | h_2 | h_3 | h_4 =>
    obtain rfl := List.length_eq_zero_iff.mp hlen.symm
    simp [rdsr1Frame, rdsr2Frame, rdsr3Frame, wrenFrame, BitVec.toNat_eq, hopc]
  case h_5 =>
    obtain ⟨v, rfl⟩ := List.length_eq_one_iff.mp hlen.symm
    simp [wrsr1Frame, BitVec.toNat_eq, hopc]

/-- A successful answer of the reference responder has as many bytes as the frame asks for (R131 to R135). -/
theorem Responder.length_answer (l : SrLayout) (latchRole : LineRole) (f : WireFrame) (r : Responder)
    (hf : f.admitted = true) (hst : (r.answer l latchRole f).1.st = 0#32) :
    (r.answer l latchRole f).1.rx.length = f.nr := by
  by_cases hinj : r.injectedStatus = 0#32
  · obtain rfl | rfl | rfl | rfl | ⟨v, rfl⟩ := f.eq_of_admitted hf <;>
      simp only [Responder.answer, hinj] <;> rfl
  · have hfailed : (r.answer l latchRole f).1 = ⟨r.injectedStatus, []⟩ := by simp [Responder.answer, hinj]
    rw [hfailed] at hst
    exact absurd hst hinj

/-- The bytes of n draws, sent bit by bit and assembled again, are n bytes (R84). -/
theorem length_bytesOfBits_drawBytes (n : Nat) (e : Env) :
    (bytesOfBits n ((Env.drawBytes n e).1.flatMap wireBits)).length = n := by
  have drawn : (Env.drawBytes n e).1.length = n := (drawBytes_spec n e).1
  have assembled := bytesOfBits_flatMap (Env.drawBytes n e).1
  rw [drawn] at assembled
  rw [assembled, drawn]

/-- In every environment an admitted frame that succeeds brings as many bytes as it asks for (R112). -/
theorem length_busFrame_rx (p : Params) (l : LineRole) (f : WireFrame) (e : Env) (hf : f.admitted = true)
    (hst : (busFrame p l f e).1.st = 0#32) : (busFrame p l f e).1.rx.length = f.nr := by
  unfold busFrame at hst ⊢
  split at hst
  · split at hst
    next hdraw =>
      rw [if_pos hdraw]
      exact length_bytesOfBits_drawBytes f.nr e.draw.2
    next hdraw => exact absurd hst hdraw
  · exact Responder.length_answer p.srLayout l f _ hf hst

/-! ### RXBUF after a frame -/

/-- A frame that succeeds leaves its bytes in RXBUF from the first element on (R114). -/
theorem xfer_rxbuf_of_success (f : WireFrame) (s : State) (hm : s.xferMode = .single) (hf : f.admitted = true)
    (hst : (s.reply f).st = 0#32) : (xfer f s).rxbuf = s.rxbuf.writeBytes 0x80 (s.reply f).rx := by
  simp [xfer, hm, hf, afterFrame, hst]

/-- A frame that fails leaves RXBUF as it is (R114). -/
theorem xfer_rxbuf_of_failure (f : WireFrame) (s : State) (hm : s.xferMode = .single) (hf : f.admitted = true)
    (hst : (s.reply f).st ≠ 0#32) : (xfer f s).rxbuf = s.rxbuf := by
  simp [xfer, hm, hf, afterFrame, hst]

/-- Settles O39: a successful frame writes exactly `nr` bytes from RXBUF's first element on, so what it reads back there and
elsewhere is what a run of writes leaves; with `nr` = 0 the run is empty, and a failed frame writes nothing. -/
theorem readPayloadGoesToRxbuf : Obligations.ReadPayloadGoesToRxbuf := by
  intro f s hm hf
  have length_rx (hst : (s.reply f).st = 0#32) : (s.reply f).rx.length = f.nr :=
    length_busFrame_rx s.params s.latchRole f s.env hf hst
  refine ⟨fun hst => ?_, fun hnone => ?_⟩
  · rw [xfer_rxbuf_of_success f s hm hf hst, ← length_rx hst]
    exact ⟨fun k hk => Memory.read_writeBytes_inside s.rxbuf 0x80 k _ hk,
      fun j hj => Memory.read_writeBytes_outside s.rxbuf 0x80 j _ hj⟩
  · by_cases hst : (s.reply f).st = 0#32
    · have hnr : f.nr = 0 := hnone.resolve_right (not_not_intro hst)
      have hrx : (s.reply f).rx = [] := List.length_eq_zero_iff.mp ((length_rx hst).trans hnr)
      rw [xfer_rxbuf_of_success f s hm hf hst, hrx, Memory.writeBytes]
    · exact xfer_rxbuf_of_failure f s hm hf hst

end Sys2Proof.Machine
end

section
/-! A request refused by its first line (SPEC 41_configurator.md, R145; 30_encoding.md, R88 and R89): the outermost operation
is not RUN_RECOVERY, so the refusal ends it with code 5 and nothing else happens. -/
namespace Sys2Proof

/-- OP reads back from the word laid out by R85: every other field starts at bit 4 or above. -/
@[simp] theorem opField_requestWord (op : BitVec 4) (f : Fields) : opField (requestWord op f) = op := by
  apply BitVec.eq_of_getLsbD_eq
  intro i hi
  have below_arg : i < 4 := hi
  have below_ap : i < 12 := by omega
  have below_nw : i < 13 := by omega
  have below_nr : i < 21 := by omega
  have in_word : i < 32 := by omega
  simp [opField, requestWord, below_arg, below_ap, below_nw, below_nr, in_word]

end Sys2Proof

namespace Sys2Proof.Machine

/-- Outside RUN_RECOVERY, `raise RequestRejected` aborts nothing: it is the plain rejection (R234, R261). -/
theorem raise_requestRejected (s : State) (h : s.latOp ≠ 0x8#4) :
    raise .requestRejected ErrInfo.nothing s = reject s :=
  raise_plain .requestRejected ErrInfo.nothing s h

/-- A request of another operation than RUN_RECOVERY whose first line raises RequestRejected ends there, with no other change
(R88, R89). -/
theorem request_refused_at_first_line (w : Word) (l : Line) (ls : List Line) (s : State) (hready : s.ready)
    (hop : opField w ≠ 0x8#4)
    (hline : lineEffect l (accept w (l :: ls ++ [.endOk]) s) =
      raise .requestRejected ErrInfo.nothing (accept w (l :: ls ++ [.endOk]) s)) :
    request w (l :: ls) s = s.rejected w := by
  obtain ⟨hidle, hquiet⟩ := hready
  have refused := hline.trans (raise_requestRejected _ hop)
  calc request w (l :: ls) s
      = run roundLimit (accept w (l :: ls ++ [.endOk]) s) := request_idle w (l :: ls) s hidle
    _ = reject (accept w (l :: ls ++ [.endOk]) s) :=
        stop_run (roundLimit - 1) _ _ l (ls ++ [.endOk]) rfl (quiet_of_port hquiet rfl) rfl refused rfl
    _ = s.rejected w := reject_accept w _ s

/-- CONFIGURE's line 1 refuses a configured bus (R145). -/
theorem lineNeedUnconfigured_of_configured (s : State) (h : s.status.configured = true) :
    lineNeedUnconfigured s = raise .requestRejected ErrInfo.nothing s :=
  if_pos h

/-- The meaning of CONFIGURE is its request (R141). -/
theorem exec_configure (f : Fields) (s : State) :
    exec (.configure f) s = .next (request (requestWord 0x1#4 f) configureLines s) := rfl

/-- Settles O31: line 1 of CONFIGURE refuses, so no later line reads an operand, calls the transport or emits `Cfg`. -/
theorem configureTwiceIsRefused : Obligations.ConfigureTwiceIsRefused := by
  intro f s hready hconfigured
  have not_recovery : opField (requestWord 0x1#4 f) ≠ 0x8#4 := by
    rw [opField_requestWord]
    decide
  have refused : request (requestWord 0x1#4 f) configureLines s = s.rejected (requestWord 0x1#4 f) :=
    request_refused_at_first_line _ .needUnconfigured _ s hready not_recovery
      (lineNeedUnconfigured_of_configured _ hconfigured)
  rw [exec_configure, refused]

end Sys2Proof.Machine
end

section
/-! A readiness wait cut short by the transport (SPEC 42_poller.md, R151 and R154): the busy reads before it, each with its
wait, and the read that fails. -/
namespace Sys2Proof.Machine

open Sys2Proof.Config

/-! ### RXBUF and the loop's last answer -/

/-- Answers after a first one: the first is overwritten, or is itself the last (R114). -/
theorem lastAnswer_cons (m : Memory) (x : Byte) (bs : List Byte) :
    lastAnswer m (x :: bs) = lastAnswer (m.write 0x80 x) bs := by
  simp only [lastAnswer, List.getLast?_cons]
  cases bs.getLast? with
  | none => rfl
  | some b => exact (m.write_write 0x80 x b).symm

/-! ### A frame that fails -/

/-- A frame that fails ends the operation with TransportError, the frame's opcode and its status (R113). -/
theorem xfer_fails (f : WireFrame) (s : State) (st : Word) (e' : Env) (hm : s.xferMode = .single) (hf : f.admitted = true)
    (h : Env.fails s.params s.latchRole f st s.env e') :
    xfer f s = raise .transportError ⟨some f.opc, none, some st⟩
      { s with
        status := (s.status.stale f).dropped s.ptr
        trace := s.trace ++ [.frame f.opc f.addr f.tx f.nr st []]
        env := e' } := by
  obtain ⟨hne, hst, henv⟩ := h
  have reply_st : (s.reply f).st = st := hst
  have env_after : s.envAfter f = e' := henv
  simp [xfer, hm, hf, afterFrame, frameFailed, frameSent, frameEvent, reply_st, env_after, hne]

/-! ### The poll loop -/

/-- WAIT_READY's lines 1 and 2 on a configured bus: the budget is loaded and the loop entered (R151). -/
theorem wait_enter_run (k : Nat) (ls : List Line) (s : State) (ha : s.status.active = true) (hq : s.quiet = true)
    (hc : s.status.configured = true) (hp : s.ptr = waitReadyLines ++ ls) :
    run (k + 2) s = run k { s with ptr := .poll .read :: ls, retry := retryCeiling } := by
  have configured : lineEffect .needConfigured s = { s with ptr := .loadRetry :: .poll .read :: ls } := by
    simp [lineEffect, lineNeedConfigured, hc, State.advance, hp, nextLines, waitReadyLines]
  exact (line_run (k + 1) s _ .needConfigured _ ha hq hp configured).trans
    (line_run k _ _ .loadRetry _ ha (quiet_of_port hq rfl) rfl rfl)

/-- Busy reads within the budget, each with its wait, bring the loop back to line 4 (R151). -/
theorem poll_busy_run (bs : List Byte) (k : Nat) (ls : List Line) (s : State) (e : Env)
    (ha : s.status.active = true) (hq : s.quiet = true) (hm : s.xferMode = .single) (hp : s.ptr = .poll .read :: ls)
    (hb : ∀ x ∈ bs, busy x = true) (hn : bs.length < s.retry.toNat)
    (he : Env.reads s.params s.latchRole rdsr1Frame bs s.env e) :
    run (k + 5 * bs.length) s = run k
      { s with
        env := e
        rxbuf := lastAnswer s.rxbuf bs
        retry := s.retry - BitVec.ofNat 14 bs.length
        locals := { s.locals with sr1 := bs.getLast?.getD s.locals.sr1 }
        trace := s.trace ++ busyPolls bs } := by
  induction bs generalizing s with
  | nil =>
    obtain rfl : e = s.env := he
    simp [lastAnswer, busyPolls]
  | cons x bs ih =>
    obtain ⟨hbx, hbs⟩ := List.forall_mem_cons.mp hb
    obtain ⟨hread, hrest⟩ := he
    rw [List.length_cons] at hn ⊢
    have first := poll_busy x (k + 5 * bs.length) ls s _ ha hq hm hp hbx (by bv_omega) ⟨hread, rfl⟩
    have budget : bs.length < (s.retry - 1#14).toNat := by bv_omega
    refine first.trans ((ih _ (by exact ha) (by exact hq) (by exact hm) (by exact hp) hbs budget hrest).trans ?_)
    simp [lastAnswer_cons, busyPolls, List.getLast?_cons, BitVec.ofNat_add, BitVec.sub_sub, BitVec.add_comm]

/-- A read of the poll loop that fails ends the operation at line 4 (R151, R154). -/
theorem poll_fails (k : Nat) (ls : List Line) (s : State) (st : Word) (e' : Env)
    (ha : s.status.active = true) (hq : s.quiet = true) (hm : s.xferMode = .single) (hp : s.ptr = .poll .read :: ls)
    (he : Env.fails s.params s.latchRole rdsr1Frame st s.env e') :
    run (k + 1) s = raise .transportError ⟨some 0x05#8, none, some st⟩
      { s with trace := s.trace ++ [.frame 0x05#8 none [] 1 st []], env := e' } := by
  refine stop_run k s _ (.poll .read) ls ha hq hp ?_ rfl
  refine (xfer_fails rdsr1Frame s st e' hm rfl he).trans ?_
  simp [hp, Status.stale, Status.dropped, Line.readsSnapshot, rdsr1Frame]

/-- The poll loop with busy answers within the budget and then a read that fails (R154). -/
theorem poll_busy_fails (bs : List Byte) (k : Nat) (ls : List Line) (s : State) (st : Word) (e e' : Env)
    (ha : s.status.active = true) (hq : s.quiet = true) (hm : s.xferMode = .single) (hp : s.ptr = .poll .read :: ls)
    (hb : ∀ x ∈ bs, busy x = true) (hn : bs.length < s.retry.toNat)
    (hreads : Env.reads s.params s.latchRole rdsr1Frame bs s.env e)
    (hfails : Env.fails s.params s.latchRole rdsr1Frame st e e') :
    run (k + 1 + 5 * bs.length) s = raise .transportError ⟨some 0x05#8, none, some st⟩
      { s with
        env := e'
        rxbuf := lastAnswer s.rxbuf bs
        retry := s.retry - BitVec.ofNat 14 bs.length
        trace := s.trace ++ (busyPolls bs ++ [.frame 0x05#8 none [] 1 st []]) } := by
  refine (poll_busy_run bs (k + 1) ls s e ha hq hm hp hb hn hreads).trans ?_
  refine (poll_fails k ls _ st e' (by exact ha) (by exact hq) (by exact hm) (by exact hp) (by exact hfails)).trans ?_
  rw [← List.append_assoc]
  rfl -- the two states differ in their locals alone, which `raise` clears

/-- `call WAIT_READY` with busy answers and then a read that fails (R154). -/
theorem wait_fails_run (bs : List Byte) (k : Nat) (ls : List Line) (s : State) (st : Word) (e e' : Env)
    (ha : s.status.active = true) (hq : s.quiet = true) (hm : s.xferMode = .single) (hc : s.status.configured = true)
    (hp : s.ptr = waitReadyLines ++ ls) (hlen : bs.length < 10000) (hb : ∀ x ∈ bs, busy x = true)
    (hreads : Env.reads s.params s.latchRole rdsr1Frame bs s.env e)
    (hfails : Env.fails s.params s.latchRole rdsr1Frame st e e') :
    run (k + 1 + 5 * bs.length + 2) s = raise .transportError ⟨some 0x05#8, none, some st⟩
      { s with
        ptr := .poll .read :: ls
        env := e'
        rxbuf := lastAnswer s.rxbuf bs
        retry := retryCeiling - BitVec.ofNat 14 bs.length
        trace := s.trace ++ (busyPolls bs ++ [.frame 0x05#8 none [] 1 st []]) } :=
  (wait_enter_run (k + 1 + 5 * bs.length) ls s ha hq hc hp).trans
    (poll_busy_fails bs k ls { s with ptr := .poll .read :: ls, retry := retryCeiling } st e e' ha hq hm rfl hb hlen hreads
      hfails)

/-! ### WAIT_READY -/

/-- The meaning of WAIT_READY is its request (R151). -/
theorem exec_waitReady (f : Fields) (s : State) :
    exec (.waitReady f) s = .next (request (requestWord 0x3#4 f) waitReadyLines s) := rfl

/-- Settles O43: the busy reads leave RETRY at 10000 - (k - 1), above 0, so the loop reaches its k-th read, and that read's
failure ends the operation, which is not RUN_RECOVERY. -/
theorem waitReadyStopsAtTransportError : Obligations.WaitReadyStopsAtTransportError := by
  intro f s bs st e e' hready hconfigured hsingle hlen hbusy hreads hfails
  obtain ⟨hidle, hquiet⟩ := hready
  have not_recovery : opField (requestWord 0x3#4 f) ≠ 0x8#4 := by
    rw [opField_requestWord]
    decide
  have rounds : roundLimit = roundLimit - (5 * bs.length + 3) + 1 + 5 * bs.length + 2 := by
    unfold roundLimit
    omega
  have stopped := wait_fails_run bs (roundLimit - (5 * bs.length + 3)) [.endOk]
    (accept (requestWord 0x3#4 f) (waitReadyLines ++ [.endOk]) s) st e e' rfl hquiet hsingle hconfigured rfl hlen hbusy
    hreads hfails
  rw [exec_waitReady, request_idle _ _ s hidle, rounds, stopped, raise_plain]
  · simp [endOp, accept, State.latOp, State.ended, State.latch, Result.transport, ErrKind.code, retryCeiling]
  · exact not_recovery

end Sys2Proof.Machine
end

section
/-! The status decoder under the default layout (SPEC 44_status_decoder.md, R181, R182) and the word DECODED (10_state.md,
R30): the layout lists BP and DRV as single bits, so each is put together again from its bits. -/
namespace Sys2Proof.Machine

open Sys2Proof.Config

/-! ### A field and its bits -/

/-- A field of one bit is that bit. -/
theorem extractLsb'_one_eq_ofBool {w : Nat} (x : BitVec w) (i : Nat) : x.extractLsb' i 1 = BitVec.ofBool (x.getLsbD i) := by
  ext j hj
  obtain rfl : j = 0 := Nat.lt_one_iff.mp hj
  simp

/-- A field is its lowest bit below the field of the bits after it. -/
theorem extractLsb'_succ_eq_concat {w : Nat} (x : BitVec w) (i n : Nat) :
    x.extractLsb' i (n + 1) = (x.extractLsb' (i + 1) n).concat (x.getLsbD i) := by
  ext j hj
  cases j with
  | zero => simp
  | succ k => simp [Nat.add_assoc, Nat.add_comm 1 k]

/-- The value of a field: its lowest bit and twice the value of the bits after it. -/
theorem toNat_extractLsb'_succ {w : Nat} (x : BitVec w) (i n : Nat) :
    (x.extractLsb' i (n + 1)).toNat = (x.getLsbD i).toNat + 2 * (x.extractLsb' (i + 1) n).toNat := by
  rw [extractLsb'_succ_eq_concat, BitVec.toNat_concat]
  omega

/-- A two-bit field is the sum of its weighted bits. -/
theorem ofNat_two_bits {w : Nat} (x : BitVec w) (i : Nat) :
    BitVec.ofNat 2 ((x.getLsbD i).toNat + 2 * (x.getLsbD (i + 1)).toNat) = x.extractLsb' i 2 := by
  have value : (x.extractLsb' i 2).toNat = (x.getLsbD i).toNat + 2 * (x.getLsbD (i + 1)).toNat := by
    rw [toNat_extractLsb'_succ, extractLsb'_one_eq_ofBool, BitVec.toNat_ofBool]
  rw [← value, BitVec.ofNat_toNat, BitVec.setWidth_eq]

/-- A five-bit field is the sum of its weighted bits. -/
theorem ofNat_five_bits {w : Nat} (x : BitVec w) (i : Nat) :
    BitVec.ofNat 5 ((x.getLsbD i).toNat + 2 * (x.getLsbD (i + 1)).toNat + 4 * (x.getLsbD (i + 2)).toNat
      + 8 * (x.getLsbD (i + 3)).toNat + 16 * (x.getLsbD (i + 4)).toNat) = x.extractLsb' i 5 := by
  have value : (x.extractLsb' i 5).toNat = (x.getLsbD i).toNat + 2 * (x.getLsbD (i + 1)).toNat
      + 4 * (x.getLsbD (i + 2)).toNat + 8 * (x.getLsbD (i + 3)).toNat + 16 * (x.getLsbD (i + 4)).toNat := by
    simp only [toNat_extractLsb'_succ, extractLsb'_one_eq_ofBool, BitVec.toNat_ofBool, Nat.add_assoc, Nat.reduceAdd]
    omega
  rw [← value, BitVec.ofNat_toNat, BitVec.setWidth_eq]

/-! ### The word DECODED -/

/-- A flag is a one-bit field shifted to its place. -/
theorem flagAt_eq_shiftLeft (b : Bool) (i : Nat) : flagAt b i = (BitVec.ofBool b).setWidth 32 <<< i := by
  cases b <;> simp [flagAt]

/-- DECODED holds the record's fields side by side, BUSY lowest, with zeros above (R30). -/
theorem Decoded.word_eq_append (d : Decoded) :
    d.word = (d.drv ++ BitVec.ofBool d.qe ++ BitVec.ofBool d.srp1 ++
      (BitVec.ofBool d.srp0 ++ d.bp ++ BitVec.ofBool d.wel ++ BitVec.ofBool d.busy)).setWidth 32 := by
  simp only [Decoded.word, flagAt_eq_shiftLeft, BitVec.setWidth_append_append_append_eq_shiftLeft_setWidth_or,
    BitVec.shiftLeft_zero]
  ac_rfl

/-- A byte is its fields at R182's places in SR1. -/
theorem byte_eq_append_fields (b : Byte) :
    BitVec.ofBool (b.getLsbD 7) ++ b.extractLsb' 2 5 ++ BitVec.ofBool (b.getLsbD 1) ++ BitVec.ofBool (b.getLsbD 0) = b := by
  simp only [← extractLsb'_one_eq_ofBool]
  rw [BitVec.extractLsb'_append_extractLsb'_eq_extractLsb' (show 7 = 2 + 5 from rfl),
    BitVec.extractLsb'_append_extractLsb'_eq_extractLsb' (show 2 = 1 + 1 from rfl),
    BitVec.extractLsb'_append_extractLsb'_eq_extractLsb' (show 1 = 0 + 1 from rfl), BitVec.extractLsb'_eq_self]

/-! ### The default layout -/

/-- The record that R182 writes out for the default layout. -/
theorem decodeStatus_standard (b1 b2 b3 : Byte) :
    decodeStatus SrLayout.standard b1 b2 b3 =
      { busy := b1.getLsbD 0
        wel := b1.getLsbD 1
        bp := b1.extractLsb' 2 5
        srp0 := b1.getLsbD 7
        srp1 := b2.getLsbD 0
        qe := b2.getLsbD 1
        drv := b3.extractLsb' 5 2 } := by
  rw [← ofNat_five_bits b1 2, ← ofNat_two_bits b3 5]
  rfl

/-- Settles O27: BP and DRV are consecutive bits in the default layout, so the record holds them as fields; in the word the
four fields of SR1 stand in SR1's own order and are that byte again. -/
theorem decodeUnderDefaultLayout : Obligations.DecodeUnderDefaultLayout := by
  intro b1 b2 b3
  have record := decodeStatus_standard b1 b2 b3
  refine ⟨record, ?_⟩
  rw [record, Decoded.word_eq_append, byte_eq_append_fields, extractLsb'_one_eq_ofBool, extractLsb'_one_eq_ofBool]

end Sys2Proof.Machine
end

section
/-! RUN_RECOVERY on a flash that stays busy (SPEC 47_orchestrator.md, R232, R234 and R242; 42_poller.md, R152): the lines up to
its first wait configure the bus, and that wait uses up its budget before any line that sends WREN or WRSR1 or calls the pin
controller. -/
namespace Sys2Proof

/-- ARG reads back from the word laid out by R85: OP ends below it and every later field starts above it. -/
@[simp] theorem fieldsOf_requestWord_arg (op : BitVec 4) (f : Fields) : (fieldsOf (requestWord op f)).arg = f.arg := by
  apply BitVec.eq_of_getLsbD_eq
  intro i hi
  have above_op : ¬ 4 + i < 4 := by omega
  have below_ap : 4 + i < 12 := by omega
  have below_nw : 4 + i < 13 := by omega
  have below_nr : 4 + i < 21 := by omega
  have in_word : 4 + i < 32 := by omega
  simp [fieldsOf, requestWord, above_op, below_ap, below_nw, below_nr, in_word, hi]

end Sys2Proof

namespace Sys2Proof.Machine

open Sys2Proof.Config

/-- The address width of an accepted request is its word's ARG (R87). -/
@[simp] theorem awOperand_accept_requestWord (op : BitVec 4) (f : Fields) (ls : List Line) (s : State) :
    (accept (requestWord op f) ls s).awOperand = f.arg.setWidth 32 :=
  congrArg (BitVec.setWidth 32) (fieldsOf_requestWord_arg op f)

/-! ### RUN_RECOVERY's lines up to its first wait -/

/-- The meaning of RUN_RECOVERY is its request (R232). -/
theorem exec_runRecovery (f : Fields) (s : State) :
    exec (.runRecovery f) s = .next (request (requestWord 0x8#4 f) runRecoveryLines s) := rfl

/-- RUN_RECOVERY's line 1 lets the fresh state pass (R231). -/
theorem lineNeedFresh_of_fresh (s : State) (ho : s.status.orch = 0#3) (hc : s.status.configured = false) :
    lineNeedFresh s = s.advance := by
  simp [lineNeedFresh, ho, hc]

/-- RUN_RECOVERY's lines 1 to 3 from the fresh state with a legal format: the bus is configured and the orchestrator is
BusConfigured (R231, R232). -/
theorem recovery_configured_run (k : Nat) (ls : List Line) (s : State) (freq : Word) (e : Env)
    (ha : s.status.active = true) (hq : s.quiet = true) (ho : s.status.orch = 0#3) (hc : s.status.configured = false)
    (hp : s.ptr = .needFresh :: (configureLines ++ .setOrch .busConfigured :: ls))
    (hf : readOperand s.lat.freq s.env = (freq, e)) (haw : s.params.legalAw.admits s.awOperand = true)
    (hfr : s.params.legalFreq.contains freq = true) :
    run (k + 8) s = run k
      { s with
        ptr := ls
        status := { s.status with configured := true, orch := 1#3, stage := 1#3 }
        cfg := ⟨s.awOperand.setWidth 8, freq⟩
        xferMode := .single
        env := e
        locals := { s.locals with aw := s.awOperand, freq := freq, cst := 0#32 }
        trace := s.trace ++ [.cfg s.awOperand freq true] } := by
  have fresh : lineEffect .needFresh s = { s with ptr := configureLines ++ .setOrch .busConfigured :: ls } := by
    refine (lineNeedFresh_of_fresh s ho hc).trans ?_
    simp [State.advance, hp, nextLines]
  have line1 := line_run (k + 7) s _ .needFresh _ ha hq hp fresh
  have configured := configure_run (k + 1) (.setOrch .busConfigured :: ls)
    { s with ptr := configureLines ++ .setOrch .busConfigured :: ls } freq e ha (quiet_of_port hq rfl) hc rfl hf haw hfr
  refine line1.trans (configured.trans ?_)
  exact line_run k _ _ (.setOrch .busConfigured) ls ha (quiet_of_port hq rfl) rfl rfl

/-- RUN_RECOVERY from the fresh state with a legal format and a first wait that times out: its lines 1 to 4 and no more
(R232, R242). -/
theorem recovery_timeout_run (bs : List Byte) (b : Byte) (k : Nat) (ls : List Line) (s : State) (freq : Word) (e e' : Env)
    (ha : s.status.active = true) (hq : s.quiet = true) (ho : s.status.orch = 0#3) (hc : s.status.configured = false)
    (hp : s.ptr = .needFresh :: (configureLines ++ .setOrch .busConfigured :: (waitReadyLines ++ ls)))
    (hf : readOperand s.lat.freq s.env = (freq, e)) (haw : s.params.legalAw.admits s.awOperand = true)
    (hfr : s.params.legalFreq.contains freq = true) (hlen : bs.length = 9999) (hb : ∀ x ∈ bs ++ [b], busy x = true)
    (he : Env.reads s.params s.latchRole rdsr1Frame (bs ++ [b]) e e') :
    run (k + (5 * bs.length + 6) + 8) s = raise .readinessTimeout ⟨none, some b, none⟩
      { s with
        status := { s.status with configured := true, orch := 1#3, stage := 1#3 }
        cfg := ⟨s.awOperand.setWidth 8, freq⟩
        xferMode := .single
        env := e'
        rxbuf := s.rxbuf.write 0x80 b
        retry := 0#14
        trace := s.trace ++ ([.cfg s.awOperand freq true] ++ busyPolls bs ++ [readEvent 0x05#8 b]) } := by
  refine (recovery_configured_run _ _ s freq e ha hq ho hc hp hf haw hfr).trans ?_
  refine (timeout_run bs b k ls _ e' (by exact ha) (by exact quiet_of_port hq rfl) rfl rfl rfl hlen hb
    (by exact he)).trans ?_
  simp only [List.append_assoc]
  rfl -- the two states differ in their pointer and locals alone, which `raise` clears

/-! ### The end of the recovery -/

/-- A readiness timeout inside RUN_RECOVERY ends it with code 2 and the last answer, the orchestrator Aborted and STAGE as it
was (R234, R261). -/
theorem raise_readinessTimeout_of_recovery (b : Byte) (s : State) (h : s.latOp = 0x8#4) :
    raise .readinessTimeout ⟨none, some b, none⟩ s =
      { s with
        status := { s.status with active := false, orch := 7#3 }
        result := Result.answered 0x8#4 0x2#4 b
        trace := s.trace ++ [.done 0x8#4 0x2#4]
        ptr := []
        locals := Locals.clear } := by
  have latOp_setOrch : (s.setOrch .aborted).latOp = 0x8#4 := h
  rw [raise_recovery _ _ s h, endOp, latOp_setOrch]
  rfl

/-- Settles O56: the bus is configured at stage 1, the first wait times out there, and that ends the request. -/
theorem runRecoveryOnBusyFlashAborts : Obligations.RunRecoveryOnBusyFlashAborts := by
  intro f s bs b freq e e' hready horch hconfigured hfreq haw hlegal hlen hbusy hreads
  obtain ⟨hidle, hquiet⟩ := hready
  have aw_operand := awOperand_accept_requestWord 0x8#4 f (runRecoveryLines ++ [.endOk]) s
  have rounds : roundLimit = roundLimit - 50009 + (5 * bs.length + 6) + 8 := by
    rw [hlen, roundLimit]
  have stopped := recovery_timeout_run bs b (roundLimit - 50009) _
    (accept (requestWord 0x8#4 f) (runRecoveryLines ++ [.endOk]) s) freq e e' rfl hquiet horch hconfigured rfl hfreq
    (by rwa [aw_operand]) hlegal hlen hbusy hreads
  have ended := stopped.trans (raise_readinessTimeout_of_recovery b _ (by exact opField_requestWord 0x8#4 f))
  rw [aw_operand, setWidth_byte_word] at ended
  rw [exec_runRecovery, request_idle _ _ s hidle, rounds, ended]
  simp [accept, State.ended, State.latch, Result.answered]

end Sys2Proof.Machine
end

section
/-! Request words (SPEC 30_encoding.md, R85, R86, R93 and R98): the five fields and RSV make up the word, so the decoder and the
encoder are inverse to each other. -/
namespace Sys2Proof

/-! ### The fields of a request word -/

/-- The word R85 lays out is its fields side by side, OP lowest, with zeros in RSV. -/
theorem requestWord_eq_append (op : BitVec 4) (f : Fields) :
    requestWord op f = 0#3 ++ f.nr ++ f.nw ++ (f.ap ++ f.arg ++ op) := by
  have upper := BitVec.setWidth_append_append_append_eq_shiftLeft_setWidth_or (w'''' := 32) (b := 0#3) (b' := f.nr)
    (b'' := f.nw) (b''' := f.ap ++ f.arg ++ op)
  have lower := BitVec.setWidth_append_append_eq_shiftLeft_setWidth_or (w''' := 32) (b := f.ap) (b' := f.arg) (b'' := op)
  have reversed (a b c d e : Word) : a ||| b ||| (c ||| d ||| e) = e ||| d ||| c ||| b ||| a := by ac_rfl
  rw [lower, BitVec.setWidth_zero, BitVec.zero_shiftLeft, BitVec.zero_or, reversed] at upper
  exact upper.symm.trans (BitVec.setWidth_eq _)

/-- The fields of a word, put side by side again, are the word. -/
theorem append_fields (w : Word) :
    rsvField w ++ (fieldsOf w).nr ++ (fieldsOf w).nw ++ ((fieldsOf w).ap ++ (fieldsOf w).arg ++ opField w) = w := by
  simp only [rsvField, fieldsOf, opField]
  rw [BitVec.extractLsb'_append_extractLsb'_eq_extractLsb' (show 29 = 21 + 8 from rfl),
    BitVec.extractLsb'_append_extractLsb'_eq_extractLsb' (show 21 = 13 + 8 from rfl),
    BitVec.extractLsb'_append_extractLsb'_eq_extractLsb' (show 12 = 4 + 8 from rfl),
    BitVec.extractLsb'_append_extractLsb'_eq_extractLsb' (show 4 = 0 + 4 from rfl),
    BitVec.extractLsb'_append_extractLsb'_eq_extractLsb' (show 13 = 0 + 13 from rfl), BitVec.extractLsb'_eq_self]

/-- A word whose RSV is 0 is the word of its OP and operand fields (R85). -/
theorem requestWord_opField_fieldsOf (w : Word) (h : rsvField w = 0#3) : requestWord (opField w) (fieldsOf w) = w := by
  rw [requestWord_eq_append, ← h, append_fields]

/-- A laid-out word has RSV 0 (R85). -/
@[simp] theorem rsvField_requestWord (op : BitVec 4) (f : Fields) : rsvField (requestWord op f) = 0#3 := by
  rw [requestWord_eq_append, rsvField, BitVec.extractLsb'_append_eq_of_le (by decide),
    BitVec.extractLsb'_append_eq_of_le (by decide), BitVec.extractLsb'_append_eq_of_le (by decide)]
  exact BitVec.extractLsb'_eq_self

/-- The operand fields read back from the word laid out with them (R85). -/
@[simp] theorem fieldsOf_requestWord (op : BitVec 4) (f : Fields) : fieldsOf (requestWord op f) = f := by
  have ap : (requestWord op f).extractLsb' 12 1 = f.ap := by
    rw [requestWord_eq_append, BitVec.extractLsb'_append_eq_of_add_le (by decide),
      BitVec.extractLsb'_append_eq_of_le (by decide), BitVec.extractLsb'_append_eq_of_le (by decide)]
    exact BitVec.extractLsb'_eq_self
  have nw : (requestWord op f).extractLsb' 13 8 = f.nw := by
    rw [requestWord_eq_append, BitVec.extractLsb'_append_eq_of_le (by decide),
      BitVec.extractLsb'_append_eq_of_add_le (by decide)]
    exact BitVec.extractLsb'_eq_self
  have nr : (requestWord op f).extractLsb' 21 8 = f.nr := by
    rw [requestWord_eq_append, BitVec.extractLsb'_append_eq_of_le (by decide),
      BitVec.extractLsb'_append_eq_of_le (by decide), BitVec.extractLsb'_append_eq_of_add_le (by decide)]
    exact BitVec.extractLsb'_eq_self
  have arg : (requestWord op f).extractLsb' 4 8 = f.arg := fieldsOf_requestWord_arg op f
  rw [fieldsOf, arg, ap, nw, nr]

/-- Settles O5: the layout is the definition of the word, and each field reads back from its place. -/
theorem requestWordLayout : Obligations.RequestWordLayout := fun op f =>
  ⟨rfl, opField_requestWord op f, rsvField_requestWord op f, fieldsOf_requestWord op f⟩

/-! ### The request decoder -/

/-- What the decoder makes of a laid-out word depends on its OP alone (R86). -/
theorem decodeRequest_requestWord (op : BitVec 4) (f : Fields) :
    decodeRequest (requestWord op f) =
      match op.toNat with
      | 1 => .ok (.configure f)
      | 2 => .ok (decodeTransfer f)
      | 3 => .ok (.waitReady f)
      | 4 => .ok (.enableWrite f)
      | 5 => .ok (.readDecode f)
      | 6 => .ok (.releaseLatch f)
      | 7 => .ok (.resetProtection f)
      | 8 => .ok (.runRecovery f)
      | _ => .error (.reservedOp op) := by
  simp only [decodeRequest, rsvField_requestWord, opField_requestWord, fieldsOf_requestWord, ne_eq, not_true_eq_false,
    if_false] <;>
  rfl -- the two matchers

/-- A pseudo row that a TRANSFER's fields spell has that TRANSFER's word (R98). -/
theorem encode_of_pseudoOf (f : Fields) (i : Instr) (h : pseudoOf f = some i) :
    encode i = .request (requestWord 0x2#4 f) ∧ i.wf = true := by
  unfold pseudoOf at h
  split_ifs at h <;> subst_vars <;> cases h <;> decide

/-- A TRANSFER's name is well formed and has the TRANSFER's word (R98). -/
theorem encode_decodeTransfer (f : Fields) :
    encode (decodeTransfer f) = .request (requestWord 0x2#4 f) ∧ (decodeTransfer f).wf = true := by
  unfold decodeTransfer
  cases h : pseudoOf f with
  | none => exact ⟨rfl, by simp [Instr.wf, h]⟩
  | some i => exact encode_of_pseudoOf f i h

/-- A word that decodes is the encoding of a well-formed instruction, the one it decodes to (R85, R86). -/
theorem encode_of_decodeRequest (w : Word) (i : Instr) (h : decodeRequest w = .ok i) :
    encode i = .request w ∧ i.wf = true := by
  have hrsv : rsvField w = 0#3 := by
    by_contra hne
    simp [decodeRequest, hne] at h
  rw [← requestWord_opField_fieldsOf w hrsv] at h ⊢
  generalize opField w = op at *
  generalize fieldsOf w = f at *
  rw [decodeRequest_requestWord] at h
  split at h
  case h_9 => cases h
  case h_2 hop =>
    cases h
    obtain rfl : op = 2#4 := BitVec.eq_of_toNat_eq hop
    exact encode_decodeTransfer f
  all_goals
    rename_i hop
    cases h
    rw [(BitVec.toNat_eq_nat.mp hop).2]
    exact ⟨rfl, rfl⟩

/-- The encoding of a well-formed instruction as a request word decodes to it (R86, R98). -/
theorem decodeRequest_of_encode (w : Word) (i : Instr) (h : encode i = .request w) (hwf : i.wf = true) :
    decodeRequest w = .ok i := by
  cases i with
  | transfer f =>
    cases h
    have named : decodeTransfer f = .transfer f := by
      simp [decodeTransfer, Option.isNone_iff_eq_none.mp hwf]
    exact (decodeRequest_requestWord _ f).trans (congrArg Except.ok named)
  | configure f | waitReady f | enableWrite f | readDecode f | releaseLatch f | resetProtection f | runRecovery f =>
    cases h
    exact decodeRequest_requestWord _ f
  | rdsr1 | rdsr2 | rdsr3 | wren | wrsr1 => cases h
  | transferRdsr1 | transferRdsr2 | transferRdsr3 | transferWren | transferWrsr1 =>
    cases h
    decide

/-- Settles O2: the two directions are the two halves of the round trip on request words. -/
theorem requestDecodingIsExact : Obligations.RequestDecodingIsExact := fun w i =>
  ⟨encode_of_decodeRequest w i, fun h => decodeRequest_of_encode w i h.1 h.2⟩

/-- Settles O6: each is one evaluation of a decoder on the word or the bits. -/
theorem writtenOutWordsDecode : Obligations.WrittenOutWordsDecode := by
  refine ⟨?_, ?_, ?_, ?_, ?_, ?_, ?_⟩ <;> decide

end Sys2Proof
end

section
/-! Wire frames (SPEC 30_encoding.md, R81, R83, R90 and R92): a byte stands at the head of a bit sequence exactly when the
sequence begins with the byte's wire bits. -/
namespace Sys2Proof

/-- Eight bits in the order of the wire are the wire bits of the byte they make up (R64). -/
theorem wireBits_byteOfBits (b7 b6 b5 b4 b3 b2 b1 b0 : Bool) :
    wireBits (byteOfBits [b7, b6, b5, b4, b3, b2, b1, b0]) = [b7, b6, b5, b4, b3, b2, b1, b0] := by
  revert b7 b6 b5 b4 b3 b2 b1 b0
  decide

/-- The first byte of a bit sequence is the one whose wire bits it begins with (R64, R83). -/
theorem takeByte_eq_some_iff (bits rest : List Bool) (b : Byte) :
    takeByte bits = some (b, rest) ↔ bits = wireBits b ++ rest := by
  constructor
  · intro h
    unfold takeByte at h
    split at h
    · cases h
      rw [wireBits_byteOfBits]
      rfl
    · cases h
  · rintro rfl
    exact Machine.takeByte_wireBits b rest

/-- What the frame decoder makes of bits that begin with an opcode (R90, R92). -/
theorem decodeFrame_wireBits (opc : Byte) (rest : List Bool) :
    decodeFrame (wireBits opc ++ rest) =
      match opc.toNat with
      | 0x05 => .ok (.rdsr1, rest)
      | 0x35 => .ok (.rdsr2, rest)
      | 0x15 => .ok (.rdsr3, rest)
      | 0x06 => .ok (.wren, rest)
      | 0x01 =>
        match takeByte rest with
        | none => .error .truncated
        | some (v, rest') => .ok (.wrsr1 v, rest')
      | _ => .error (.reservedOpcode opc) := by
  simp only [decodeFrame, Machine.takeByte_wireBits] <;>
  rfl -- the two matchers

/-- Bits that decode begin with the bits of the command they decode to (R81, R83). -/
theorem encode_of_decodeFrame (bits rest : List Bool) (i : Instr) (h : decodeFrame bits = .ok (i, rest)) :
    ∃ own, encode i = .frame own ∧ bits = own ++ rest := by
  cases htake : takeByte bits with
  | none => simp [decodeFrame, htake] at h
  | some head =>
    obtain ⟨opc, tail⟩ := head
    obtain rfl := (takeByte_eq_some_iff bits tail opc).mp htake
    rw [decodeFrame_wireBits] at h
    split at h
    case h_6 => cases h
    case h_5 hopc =>
      obtain rfl : opc = 0x01#8 := BitVec.eq_of_toNat_eq hopc
      cases hv : takeByte tail with
      | none => simp [hv] at h
      | some payload =>
        obtain ⟨v, rest'⟩ := payload
        obtain rfl := (takeByte_eq_some_iff tail rest' v).mp hv
        simp only [hv] at h
        cases h
        exact ⟨_, rfl, (List.append_assoc _ _ _).symm⟩
    all_goals
      rename_i hopc
      cases h
      exact ⟨_, rfl, by rw [(BitVec.toNat_eq_nat.mp hopc).2]⟩

/-- Bits that begin with a command's bits decode to it (R81, R83). -/
theorem decodeFrame_of_encode (own rest : List Bool) (i : Instr) (h : encode i = .frame own) :
    decodeFrame (own ++ rest) = .ok (i, rest) := by
  cases i with
  | configure | transfer | waitReady | enableWrite | readDecode | releaseLatch | resetProtection | runRecovery
  | transferRdsr1 | transferRdsr2 | transferRdsr3 | transferWren | transferWrsr1 => cases h
  | rdsr1 | rdsr2 | rdsr3 | wren =>
    cases h
    exact decodeFrame_wireBits _ rest
  | wrsr1 v =>
    cases h
    have payload := Machine.takeByte_wireBits v rest
    rw [List.append_assoc, decodeFrame_wireBits, payload]
    rfl

/-- Settles O3: a decoded command's bits stand at the head, and every command decodes from its own. -/
theorem frameDecodingIsExact : Obligations.FrameDecodingIsExact := by
  intro bits rest i
  refine ⟨encode_of_decodeFrame bits rest i, ?_⟩
  rintro ⟨own, hown, rfl⟩
  exact decodeFrame_of_encode own rest i hown

/-- Settles O1: a request word decodes by `decodeRequest`, and a frame's bits are all its own. -/
theorem decodeEncodeAgree : Obligations.DecodeEncodeAgree := by
  intro i hwf
  cases h : encode i with
  | request w => exact decodeRequest_of_encode w i h hwf
  | frame own =>
    have decoded := decodeFrame_of_encode own [] i h
    rw [List.append_nil] at decoded
    simp only [decode, decoded]

/-- Outside the reserved words every word decodes (R86, R93). -/
theorem decodeRequest_not_reserved (w : Word) (e : DecodeError) (h : decodeRequest w = .error e) :
    rsvField w ≠ 0#3 ∨ opField w = 0#4 ∨ 9#4 ≤ opField w := by
  by_contra hlegal
  simp only [not_or, not_not] at hlegal
  obtain ⟨hrsv, hzero, hbelow⟩ := hlegal
  simp only [decodeRequest, hrsv, ne_eq, not_true_eq_false, if_false] at h
  split at h
  case h_9 =>
    have nonzero : (opField w).toNat ≠ 0 := fun h0 => hzero (BitVec.eq_of_toNat_eq h0)
    have below : (opField w).toNat < 9 := BitVec.not_le.mp hbelow
    simp only [imp_false] at *
    omega -- OP is none of 1 to 8
  all_goals cases h

/-- A frame whose first byte is no admitted opcode is refused with that byte (R92). -/
theorem decodeFrame_reservedOpcode (opc : Byte) (rest : List Bool)
    (h : opc ∉ [0x05#8, 0x35#8, 0x15#8, 0x06#8, 0x01#8]) :
    decodeFrame (wireBits opc ++ rest) = .error (.reservedOpcode opc) := by
  rw [decodeFrame_wireBits]
  split
  case h_6 => rfl
  all_goals
    rename_i hopc
    rw [(BitVec.toNat_eq_nat.mp hopc).2] at h
    exact absurd h (by decide)

/-- Settles O4: the reserved words are the ones that decode to nothing, and the decoder names a foreign opcode. -/
theorem reservedEncodingsDoNotDecode : Obligations.ReservedEncodingsDoNotDecode :=
  ⟨fun w => ⟨fun ⟨e, h⟩ => decodeRequest_not_reserved w e h, decodeRequest_reserved w⟩, decodeFrame_reservedOpcode⟩

end Sys2Proof
end

section
/-! The address phase of a wire frame (SPEC 30_encoding.md, R82; 20_memory.md, R63 and R64): most significant byte first, and
each byte most significant bit first. -/
namespace Sys2Proof.Machine

/-- The byte of a word that starts at bit n sends that byte's bits from n + 7 down to n (R64). -/
theorem wireBits_extractLsb' (a : Word) (n : Nat) :
    wireBits (a.extractLsb' n 8) = (List.range 8).map fun k => a.getLsbD (n + 7 - k) := by
  simp [wireBits, List.range_succ]

/-- The low n bytes of a word send its bits from 8n - 1 down to 0 (R63, R64). -/
theorem addressBits_eq_map_range (a : Word) (n : Nat) :
    addressBits a n = (List.range (8 * n)).map fun k => a.getLsbD (8 * n - 1 - k) := by
  induction n with
  | zero => rfl
  | succ n ih =>
    have first (k : Nat) : 8 * n + 7 - k = 8 * n + 8 - 1 - k := by omega
    have later (k : Nat) : 8 * n - 1 - k = 8 * n + 8 - 1 - (8 + k) := by omega
    rw [addressBits, wireBits_extractLsb', ih, Nat.mul_succ, Nat.add_comm (8 * n) 8, List.range_add, List.map_append,
      List.map_map, Nat.add_comm 8 (8 * n)]
    simp only [first, later, Function.comp_def]

/-- Settles O9: a width that is a multiple of 8 is a number of whole bytes. -/
theorem addressPhaseIsMostSignificantFirst : Obligations.AddressPhaseIsMostSignificantFirst := by
  intro a aw haw
  rw [addressBits_eq_map_range, Nat.mul_div_cancel' (Nat.dvd_of_mod_eq_zero haw)]

end Sys2Proof.Machine
end

section
/-! What one line can do: the inversion of `lineEffect` (SPEC 10_state.md, R36; 30_encoding.md, R89; 40_transport.md, R113). Every
line passes, moves data and goes on, sends a frame, or ends the operation; what a run keeps is proved over these cases. -/
namespace Sys2Proof.Machine

open Sys2Proof.Config

/-! ### The cases of a line -/

/-- The frame a line sends, if it sends one. -/
def lineFrame (s : State) : Line → Option WireFrame
  | .poll .read | .verifyRead | .snapRead1 => some rdsr1Frame
  | .snapRead2 => some rdsr2Frame
  | .snapRead3 => some rdsr3Frame
  | .sendWren => some wrenFrame
  | .sendWrsr1 => some (wrsr1Frame 0x00#8)
  | .xferFrame => some (transferFrame s)
  | _ => none

/-- The test of a line that goes on without an effect. -/
def linePasses (s : State) : Line → Prop
  | .needConfigured => s.status.configured = true
  | .needUnconfigured => s.status.configured = false
  | .needUnreleased => s.status.latchReleased = false
  | .needFresh => s.status.orch = 0#3 ∧ s.status.configured = false
  | .cfgCheck => s.locals.cst = 0#32
  | .xferCheck => s.locals.desc.wf s.params = true
  | .poll .ready => busy s.locals.sr1 = true
  | .poll .exhausted => s.retry ≠ 0#14
  | .verifyLatch => s.params.welCheck = true → welSet s.params.srLayout s.locals.sr1 = true
  | .verifyCleared => s.params.verifyCheck = true → stillProtected s.params.srLayout s.snap.sr1 = false
  | _ => False

/-- The errors a line can raise without a frame on the bus. -/
def lineErrors (s : State) : Line → List ErrKind
  | .needConfigured => if s.status.configured then [] else [.requestRejected]
  | .needUnconfigured => if s.status.configured then [.requestRejected] else []
  | .needUnreleased => if s.status.latchReleased then [.requestRejected] else []
  | .cfgCheck => [.configurationFailure]
  | .xferCheck => [.transportError]
  | .poll .exhausted => [.readinessTimeout]
  | .verifyLatch => if s.params.welCheck then [.writeEnableNotLatched] else []
  | .verifyCleared => if s.params.verifyCheck then [.protectionStillSet] else []
  | .xferFrame => if s.xferMode = .single then [.transportError] else [.requestRejected]
  | .poll .read | .verifyRead | .snapRead1 | .snapRead2 | .snapRead3 | .sendWren | .sendWrsr1 =>
    if s.xferMode = .single then [] else [.requestRejected]
  | _ => []

/-- What line l can make of state s. -/
inductive LineStep (s : State) : Line → State → Prop where
  /-- A test that lets the operation go on. -/
  | passed {l : Line} (h : linePasses s l) : LineStep s l s.advance
  /-- The return from the poll loop. -/
  | answered (h : busy s.locals.sr1 = false) : LineStep s (.poll .ready) s.leaveLoop
  /-- Operands from the latched request and the environment into the locals. -/
  | operands {l : Line} (hl : l ∈ [.cfgOperands, .cfgTransport, .xferDescriptor, .xferLoad]) (e : Env) (v : Locals) :
      LineStep s l { s with env := e, locals := v }.advance
  | cfgEmitted : LineStep s .cfgEmit (lineCfgEmit s)
  | recorded : LineStep s .cfgRecord (lineCfgRecord s)
  | loaded : LineStep s .loadRetry (lineLoadRetry s)
  | counted : LineStep s (.poll .count) (linePollCount s)
  | waited : LineStep s (.poll .wait) (linePollWait s)
  | stored : LineStep s .snapStore (lineSnapStore s)
  | pinned : LineStep s .pinMode (linePinMode s)
  | released : LineStep s .markReleased (lineMarkReleased s)
  | ordered (o : Orch) : LineStep s (.setOrch o) (lineSetOrch o s)
  /-- A frame that succeeds. -/
  | sent {l : Line} {f : WireFrame} (hf : lineFrame s l = some f) (hm : s.xferMode = .single) (ha : f.admitted = true)
      (hst : (s.reply f).st = 0#32) :
      LineStep s l (frameDone (s.reply f) (frameSent f (s.reply f) { s with env := s.envAfter f }))
  /-- A frame that fails. -/
  | failed {l : Line} {f : WireFrame} (hf : lineFrame s l = some f) (hm : s.xferMode = .single) (ha : f.admitted = true)
      (hst : (s.reply f).st ≠ 0#32) :
      LineStep s l (frameFailed f (s.reply f) (frameSent f (s.reply f) { s with env := s.envAfter f }))
  /-- An error without a frame; only a TransportError and a ConfigurationFailure come with a status (R261). -/
  | raised {l : Line} (k : ErrKind) (info : ErrInfo) (h : k ∈ lineErrors s l)
      (hst : info.status ≠ none → k = .transportError ∨ k = .configurationFailure) : LineStep s l (raise k info s)
  | refused (h : s.status.orch ≠ 0#3 ∨ s.status.configured = true) : LineStep s .needFresh (reject s)
  | finished : LineStep s .endOk (finish s)

/-- A line that sends a frame: the frame succeeds or fails, or the helper ends the operation without one (R112, R113). -/
theorem xfer_step (s : State) (l : Line) (f : WireFrame) (hf : lineFrame s l = some f)
    (hmode : s.xferMode ≠ .single → ErrKind.requestRejected ∈ lineErrors s l)
    (hadm : s.xferMode = .single → f.admitted = false → ErrKind.transportError ∈ lineErrors s l) :
    LineStep s l (xfer f s) := by
  unfold xfer
  split
  next h => exact .raised _ _ (hmode h) (by simp [ErrInfo.nothing])
  next h =>
    have hm : s.xferMode = .single := not_not.mp h
    split
    next ha => exact .raised _ _ (hadm hm (by simpa using ha)) (by simp)
    next ha =>
      have ha : f.admitted = true := by simpa using ha
      unfold afterFrame
      split
      next hst => exact .sent hf hm ha hst
      next hst => exact .failed hf hm ha hst

/-- A test that passes or raises. -/
theorem ite_raise_step (s : State) (l : Line) (p : Prop) [Decidable p] (k : ErrKind) (info : ErrInfo)
    (hpass : ¬p → linePasses s l) (hfail : p → k ∈ lineErrors s l)
    (hst : info.status ≠ none → k = .transportError ∨ k = .configurationFailure) :
    LineStep s l (if p then raise k info s else s.advance) := by
  split
  next h => exact .raised k info (hfail h) hst
  next h => exact .passed (hpass h)

/-- Every line is one of the cases. -/
theorem lineEffect_step (l : Line) (s : State) : LineStep s l (lineEffect l s) := by
  cases l with
  | needConfigured =>
    simp only [lineEffect, lineNeedConfigured]
    split
    next h => exact .passed h
    next h => exact .raised _ _ (by simp [lineErrors, h]) (by simp [ErrInfo.nothing])
  | needUnconfigured =>
    exact ite_raise_step s _ _ _ _ (by simp [linePasses]) (fun h => by simp [lineErrors, h]) (by simp [ErrInfo.nothing])
  | needUnreleased =>
    exact ite_raise_step s _ _ _ _ (by simp [linePasses]) (fun h => by simp [lineErrors, h]) (by simp [ErrInfo.nothing])
  | needFresh =>
    simp only [lineEffect, lineNeedFresh]
    split
    next h => exact .refused h
    next h => exact .passed (by simpa [linePasses] using h)
  | cfgCheck => exact ite_raise_step s _ _ _ _ (by simp [linePasses]) (fun _ => by simp [lineErrors]) (by simp)
  | verifyLatch =>
    exact ite_raise_step s _ _ _ _ (by simp [linePasses]) (fun h => by simp_all [lineErrors]) (by simp)
  | verifyCleared =>
    exact ite_raise_step s _ _ _ _ (by simp [linePasses]) (fun h => by simp_all [lineErrors]) (by simp)
  | xferCheck =>
    simp only [lineEffect, lineXferCheck]
    split
    next h => exact .passed h
    next h => exact .raised _ _ (by simp [lineErrors]) (by simp)
  | poll p =>
    cases p with
    | read => exact xfer_step s _ _ rfl (fun h => by simp [lineErrors, h]) (fun _ h => by cases h)
    | ready =>
      simp only [lineEffect, linePollReady]
      split
      next h => exact .passed h
      next h => exact .answered (by simpa using h)
    | count => exact .counted
    | exhausted => exact ite_raise_step s _ _ _ _ id (fun _ => by simp [lineErrors]) (by simp)
    | wait => exact .waited
  | xferFrame => exact xfer_step s _ _ rfl (fun h => by simp [lineErrors, h]) (fun h _ => by simp [lineErrors, h])
  | sendWren | verifyRead | snapRead1 | snapRead2 | snapRead3 | sendWrsr1 =>
    exact xfer_step s _ _ rfl (fun h => by simp [lineErrors, h]) (fun _ h => by cases h)
  | cfgOperands | cfgTransport | xferDescriptor | xferLoad => exact .operands (by simp) _ _
  | cfgEmit => exact .cfgEmitted
  | cfgRecord => exact .recorded
  | loadRetry => exact .loaded
  | snapStore => exact .stored
  | pinMode => exact .pinned
  | markReleased => exact .released
  | setOrch o => exact .ordered o
  | endOk => exact .finished

/-! ### What every case has in common -/

section
variable {s t : State} {l : Line}

/-- A line goes on, with the pointer one line on or out of the poll loop, or ends the operation. -/
theorem LineStep.control (h : LineStep s l t) :
    (t.status.active = s.status.active ∧
        (t.ptr = nextLines s.ptr ∧ l ≠ .endOk ∨ l = .poll .ready ∧ t.ptr = s.ptr.tail)) ∨
      (t.status.active = false ∧ t.ptr = []) := by
  cases h with
  | answered => exact .inl ⟨rfl, .inr ⟨rfl, rfl⟩⟩
  | raised | refused | finished | failed => exact .inr ⟨rfl, rfl⟩
  | passed h =>
    refine .inl ⟨rfl, .inl ⟨rfl, ?_⟩⟩
    rintro rfl
    exact h
  | operands hl =>
    refine .inl ⟨rfl, .inl ⟨rfl, ?_⟩⟩
    rintro rfl
    simp at hl
  | sent hf =>
    refine .inl ⟨rfl, .inl ⟨rfl, ?_⟩⟩
    rintro rfl
    cases hf
  | cfgEmitted | recorded | loaded | counted | waited | stored | pinned | released | ordered =>
    exact .inl ⟨rfl, .inl ⟨rfl, by simp⟩⟩

/-- No line touches the latched request, the parameters or the port. -/
theorem LineStep.latched (h : LineStep s l t) : t.lat = s.lat ∧ t.params = s.params ∧ t.port = s.port := by
  cases h <;> exact ⟨rfl, rfl, rfl⟩

end

end Sys2Proof.Machine
end

section
/-! The step of a running operation (SPEC 10_state.md, R36; 20_memory.md, R71; 30_encoding.md, R80 and R90): a line that sends a
frame is the wire command its bits are, so a step is one round. -/
namespace Sys2Proof.Machine

open Sys2Proof.Config

/-! ### A frame is a wire command -/

/-- An admitted frame puts the bits of one wire command on D0, and that command sends exactly the frame (R81, R83, R90). -/
theorem WireFrame.command_of_admitted (f : WireFrame) (aw : Nat) (h : f.admitted = true) :
    ∃ i own, encode i = .frame own ∧ f.outBits aw = own ∧ ∀ s, exec i s = .next (xfer f s) := by
  obtain rfl | rfl | rfl | rfl | ⟨v, rfl⟩ := f.eq_of_admitted h
  · exact ⟨.rdsr1, _, rfl, rfl, fun _ => rfl⟩
  · exact ⟨.rdsr2, _, rfl, rfl, fun _ => rfl⟩
  · exact ⟨.rdsr3, _, rfl, rfl, fun _ => rfl⟩
  · exact ⟨.wren, _, rfl, rfl, fun _ => rfl⟩
  · exact ⟨.wrsr1 v, _, rfl, by simp [WireFrame.outBits, wrsr1Frame], fun _ => rfl⟩

/-- The command an admitted frame's bits decode to sends that frame (R90, R113). -/
theorem exec_of_decodeFrame_outBits (f : WireFrame) (aw : Nat) (i : Instr) (s : State) (ha : f.admitted = true)
    (h : decodeFrame (f.outBits aw) = .ok (i, [])) : exec i s = .next (xfer f s) := by
  obtain ⟨j, own, hown, hbits, hexec⟩ := f.command_of_admitted aw ha
  have decoded := decodeFrame_of_encode own [] j hown
  rw [List.append_nil, ← hbits, h] at decoded
  cases decoded
  exact hexec s

/-- The bits of an admitted frame decode to a command, with nothing left over (R90, R95). -/
theorem frameInstr_eq_some_iff (f : WireFrame) (aw : Nat) (i : Instr) :
    frameInstr f aw = some i ↔ f.admitted = true ∧ decodeFrame (f.outBits aw) = .ok (i, []) := by
  unfold frameInstr
  split
  next ha => split <;> simp_all
  next ha => simp [ha]

/-! ### The line that sends a frame -/

/-- The frame of the next line is that of the pointer's head. -/
theorem nextFrame_cons (s : State) (l : Line) (rest : List Line) (h : s.ptr = l :: rest) : nextFrame s = lineFrame s l := by
  unfold nextFrame
  rw [h]
  cases l with
  | poll p => cases p <;> rfl
  | _ => rfl

/-- A line that sends a frame is the frame helper. -/
theorem lineEffect_of_lineFrame (s : State) (l : Line) (f : WireFrame) (h : lineFrame s l = some f) :
    lineEffect l s = xfer f s := by
  cases l with
  | poll p =>
    cases p with
    | read =>
      cases h
      rfl
    | ready | count | exhausted | wait => cases h
  | _ => cases h <;> rfl

/-- When the next line sends a frame, it is the frame helper. -/
theorem runLine_of_nextFrame (s : State) (f : WireFrame) (h : nextFrame s = some f) : runLine s = xfer f s := by
  cases hp : s.ptr with
  | nil => simp [nextFrame, hp] at h
  | cons l rest =>
    rw [nextFrame_cons s l rest hp] at h
    rw [runLine_cons s l rest hp, lineEffect_of_lineFrame s l f h]

/-! ### One step is one round -/

/-- The next line is taken up as the wire command it is, or as itself (R90). -/
theorem fetchLine_cases (s : State) (h : s.status.active = true) :
    (∃ i, fetchLine s = .instr i s ∧ exec i s = .next (runLine s)) ∨ fetchLine s = .other (.next (runLine s)) := by
  simp only [fetchLine, h, if_true]
  cases hcmd : nextCommand s with
  | none => exact .inr rfl
  | some i =>
    obtain ⟨f, hf, hi⟩ := Option.bind_eq_some_iff.mp hcmd
    obtain ⟨ha, hd⟩ := (frameInstr_eq_some_iff f _ i).mp hi
    rw [runLine_of_nextFrame s f hf]
    exact .inl ⟨i, rfl, exec_of_decodeFrame_outBits f _ i s ha hd⟩

/-- A step of a running operation is one round. -/
theorem step_active (s : State) (h : s.status.active = true) : step s = .next (round s) := by
  have hfetch : fetch s = fetchLine (deliver s.port s) := by simp [fetch, h]
  rw [step, hfetch, round]
  by_cases ha : (deliver s.port s).status.active = true
  · rw [if_pos ha]
    obtain ⟨i, htaken, hexec⟩ | htaken := fetchLine_cases _ ha
    · rw [htaken]
      exact hexec
    · rw [htaken]
  · simp [fetchLine, ha]

/-- Settles O12. -/
theorem activeStepIsOneRound : Obligations.ActiveStepIsOneRound := step_active

/-- Settles O11: the frame's bits are the command's, whose meaning is the frame helper, as the line's is. -/
theorem stepRunsTheWireCommand : Obligations.StepRunsTheWireCommand := by
  rintro s u f i hactive rfl hrunning hframe ha hdecode
  have hexec := exec_of_decodeFrame_outBits f _ i (deliver s.port s) ha hdecode
  have hround : round s = xfer f (deliver s.port s) := by
    rw [round, if_pos hrunning, runLine_of_nextFrame _ f hframe]
  exact ⟨by rw [step_active s hactive, hround, hexec], hexec⟩

end Sys2Proof.Machine
end

section
/-! What the machine takes up at REQ (SPEC 30_encoding.md, R86 and R88): a request word is run by an idle block and dropped by a
running one. -/
namespace Sys2Proof.Machine

open Sys2Proof.Config

/-- The meaning of an instruction with a request word is that request, of its operation's lines (R86, R98). -/
theorem exec_of_encode_request (i : Instr) (w : Word) (h : encode i = .request w) :
    ∃ ls, i.lines = some ls ∧ ∀ s, exec i s = .next (request w ls s) := by
  cases i with
  | rdsr1 | rdsr2 | rdsr3 | wren | wrsr1 => cases h
  | _ =>
    cases h
    exact ⟨_, rfl, fun _ => rfl⟩

/-- Settles O10: the word at REQ is taken up as the instruction it decodes to. -/
theorem stepRunsTheRequest : Obligations.StepRunsTheRequest := by
  intro s w i rest hidle hport hdecode
  have hfetch : fetch s = .instr i { s with port := rest } := by
    simp [fetch_idle s _ rest hidle hport, fetchAct, hdecode]
  rw [step, hfetch]

/-- A REQ write at a running block is dropped (R88). -/
theorem hostWrite_req_active (v : Word) (s : State) (h : s.status.active = true) :
    hostWrite 0x00 .word v s = .next (dropRequest v s) := by
  have written := (hostWrite_spec 0x00 .word v s).1 (by rw [hostIndex_req]; rfl)
  rw [written, hostIndex_req]
  simp [writeIndex, h]

/-- Settles O14: the three ways a request can meet a running operation all drop it. -/
theorem requestWhileActiveIsDropped : Obligations.RequestWhileActiveIsDropped := by
  refine ⟨hostWrite_req_active, ?_, ?_⟩
  · intro v rest s h
    rw [deliver, hostWrite_req_active v s h]
    rfl
  · intro i w s hw h
    obtain ⟨ls, -, hexec⟩ := exec_of_encode_request i w hw
    rw [hexec, request_active w ls s h]
    rfl

/-- Settles O23: a reset is taken up by an idle block's step, and is delivered before a running operation's next line, which it
leaves nothing of. -/
theorem blockResetRestoresResetValues : Obligations.BlockResetRestoresResetValues := by
  intro s rest hport
  cases h : s.status.active with
  | false =>
    rw [step, fetch_idle s _ rest h hport]
    simp [fetchAct, blockReset, h]
  | true =>
    have delivered : deliver s.port s = { blockReset s with port := rest } := by rw [hport, deliver]
    have stopped : (blockReset s).status.active = false := rfl
    rw [step_active s h, round, delivered]
    simp [blockReset, h, State.reset]

end Sys2Proof.Machine
end

section
/-! What the outside world can do to a block (SPEC 10_state.md, R46; 70_reset_and_hazards.md, R290): host accesses and the flash's
own reset touch the operand registers, OVR, `Drop` events and the model's own records; a block reset resets. -/
namespace Sys2Proof.Machine

open Sys2Proof.Config

/-- t is s after some acts of the outside world without a block reset among them. -/
def Hosted (s t : State) : Prop :=
  ∃ (a f : HostReg) (tx : Memory) (o : Bool) (drops : List Event) (e : Env) (p : List Act) (log : List Word),
    t = { s with
          addr := a
          freq := f
          txbuf := tx
          status := { s.status with ovr := o }
          trace := s.trace ++ drops
          env := e
          port := p
          readLog := log } ∧
      (∀ x ∈ drops, x.isDrop = true) ∧ (s.txbuf.wf = true → tx.wf = true)

theorem Hosted.refl (s : State) : Hosted s s :=
  ⟨s.addr, s.freq, s.txbuf, s.status.ovr, [], s.env, s.port, s.readLog, by simp, by simp, id⟩

theorem Hosted.trans {s t u : State} (h : Hosted s t) (g : Hosted t u) : Hosted s u := by
  obtain ⟨_, _, _, _, ds, _, _, _, rfl, hds, htx⟩ := h
  obtain ⟨a, f, tx, o, es, e, p, log, rfl, hes, htx'⟩ := g
  refine ⟨a, f, tx, o, ds ++ es, e, p, log, by simp, ?_, fun hw => htx' (htx hw)⟩
  intro x hx
  exact (List.mem_append.mp hx).elim (hds x) (hes x)

/-- What the outside world is going to do is no part of the block. -/
theorem Hosted.set_port (s : State) (p : List Act) : Hosted s { s with port := p } :=
  ⟨s.addr, s.freq, s.txbuf, s.status.ovr, [], s.env, p, s.readLog, by simp, by simp, id⟩

theorem hosted_logRead (s : State) (v : Word) : Hosted s (s.logRead v) :=
  ⟨s.addr, s.freq, s.txbuf, s.status.ovr, [], s.env, s.port, s.readLog ++ [v], by simp [State.logRead], by simp, id⟩

theorem hosted_chipReset (s : State) : Hosted s (chipReset s) :=
  ⟨s.addr, s.freq, s.txbuf, s.status.ovr, [], (chipReset s).env, s.port, s.readLog, by simp [chipReset], by simp, id⟩

theorem hosted_dropRequest (w : Word) (s : State) : Hosted s (dropRequest w s) :=
  ⟨s.addr, s.freq, s.txbuf, true, [.drop w], s.env, s.port, s.readLog, rfl, by simp [Event.isDrop], id⟩

theorem hosted_writeIndex (k : HostIndex) (i : Nat) (v : Word) (s : State) : Hosted s (writeIndex k i v s) := by
  cases k with
  | req =>
    simp only [writeIndex]
    split
    · exact hosted_dropRequest v s
    · exact .refl s
  | addr => exact ⟨⟨v, true⟩, s.freq, s.txbuf, s.status.ovr, [], s.env, s.port, s.readLog, by simp [writeIndex], by simp, id⟩
  | freq => exact ⟨s.addr, ⟨v, true⟩, s.txbuf, s.status.ovr, [], s.env, s.port, s.readLog, by simp [writeIndex], by simp, id⟩
  | tx =>
    exact ⟨s.addr, s.freq, s.txbuf.write i (v.setWidth 8), s.status.ovr, [], s.env, s.port, s.readLog, by simp [writeIndex],
      by simp, Memory.wf_write _ _ _⟩
  | _ => exact .refl s

/-- A host write that completes writes at what its index names (R46). -/
theorem hostWrite_next (i : Nat) (wd : Width) (v : Word) (s t : State) (h : hostWrite i wd v s = .next t) :
    t = writeIndex (hostIndex s.params i) i v s := by
  unfold hostWrite at h
  split at h
  · cases h
    rfl
  · cases h

theorem hosted_hostWrite {i : Nat} {wd : Width} {v : Word} {s t : State} (h : hostWrite i wd v s = .next t) : Hosted s t := by
  rw [hostWrite_next i wd v s t h]
  exact hosted_writeIndex _ i v s

theorem hosted_hostRead {i : Nat} {wd : Width} {s t : State} (h : hostRead i wd s = .next t) : Hosted s t := by
  rw [hostRead_next i wd s t h]
  exact hosted_logRead s _

theorem hosted_finishStatement {s t : State} (h : finishStatement s = .next t) : Hosted s t := by
  unfold finishStatement at h
  split at h
  · cases h
  · split at h
    · cases h
      exact hosted_logRead s _
    · cases h
      exact (hosted_logRead s _).trans (.set_port _ _)

/-- What is delivered before a line: host accesses and resets of the flash, and a block reset at most at the end. -/
theorem deliver_cases (acts : List Act) (s : State) :
    (Hosted s (deliver acts s) ∧ ∀ a ∈ (deliver acts s).port, a ∈ acts) ∨
      ∃ u rest, Hosted s u ∧ deliver acts s = { blockReset u with port := rest } ∧ Act.reset ∈ acts := by
  induction acts generalizing s with
  | nil => exact .inl ⟨.set_port s [], by simp [deliver]⟩
  | cons a rest ih =>
    have later {u : State} (hu : Hosted s u) (hd : deliver (a :: rest) s = deliver rest u) :
        (Hosted s (deliver (a :: rest) s) ∧ ∀ b ∈ (deliver (a :: rest) s).port, b ∈ a :: rest) ∨
          ∃ v rest', Hosted s v ∧ deliver (a :: rest) s = { blockReset v with port := rest' } ∧ Act.reset ∈ a :: rest := by
      rw [hd]
      obtain ⟨hv, hport⟩ | ⟨v, rest', hv, hreset, hmem⟩ := ih u
      · exact .inl ⟨hu.trans hv, fun b hb => List.mem_cons_of_mem a (hport b hb)⟩
      · exact .inr ⟨v, rest', hu.trans hv, hreset, List.mem_cons_of_mem a hmem⟩
    cases a with
    | pause => exact .inl ⟨.set_port s rest, fun b hb => List.mem_cons_of_mem _ hb⟩
    | await => exact .inl ⟨.set_port s _, fun b hb => hb⟩
    | reset => exact .inr ⟨s, rest, .refl s, rfl, List.mem_cons_self⟩
    | chipReset => exact later (hosted_chipReset s) rfl
    | write i wd v =>
      cases h : hostWrite i wd v s with
      | next t => exact later (hosted_hostWrite h) (by simp [deliver, h])
      | fault r => exact .inl ⟨by simpa [deliver, h] using .set_port s _, by simp [deliver, h]⟩
      | refused r => exact .inl ⟨by simpa [deliver, h] using .set_port s _, by simp [deliver, h]⟩
    | read i wd =>
      cases h : hostRead i wd s with
      | next t => exact later (hosted_hostRead h) (by simp [deliver, h])
      | fault r => exact .inl ⟨by simpa [deliver, h] using .set_port s _, by simp [deliver, h]⟩
      | refused r => exact .inl ⟨by simpa [deliver, h] using .set_port s _, by simp [deliver, h]⟩

/-- Without a block reset among the acts, what is delivered is host accesses and resets of the flash. -/
theorem deliver_hosted (acts : List Act) (s : State) (h : Act.reset ∉ acts) :
    Hosted s (deliver acts s) ∧ Act.reset ∉ (deliver acts s).port := by
  obtain ⟨hs, hport⟩ | ⟨_, _, _, _, hmem⟩ := deliver_cases acts s
  · exact ⟨hs, fun hr => h (hport _ hr)⟩
  · exact absurd hmem h

/-! ### Runs by induction -/

/-- What every round keeps, a run keeps. -/
theorem run_induction {I : State → Prop} (hround : ∀ s, I s → s.status.active = true → I (round s)) (n : Nat) (s : State)
    (h : I s) : I (run n s) := by
  induction n generalizing s with
  | zero => exact h
  | succ n ih =>
    cases ha : s.status.active with
    | false => rwa [run_inactive _ s ha]
    | true =>
      rw [run_succ n s ha]
      exact ih _ (hround s h ha)

/-- The pointer of a running operation names its next line. -/
theorem runLine_step (s : State) : (s.ptr = [] ∧ runLine s = s) ∨ ∃ l rest, s.ptr = l :: rest ∧ LineStep s l (runLine s) := by
  cases h : s.ptr with
  | nil => exact .inl ⟨rfl, by simp [runLine, h]⟩
  | cons l rest =>
    refine .inr ⟨l, rest, rfl, ?_⟩
    rw [runLine_cons s l rest h]
    exact lineEffect_step l s

end Sys2Proof.Machine
end

section
/-! The invariant (SPEC 10_state.md, R48): reset meets it, and every step keeps it. -/
namespace Sys2Proof.Machine

open Sys2Proof.Config

/-! ### The orchestrator's numbers and the lines' roles -/

/-- The reserved number is no state's (R38). -/
theorem Orch.value_ne_six (o : Orch) : o.value ≠ 6#3 := by cases o <;> decide

/-- Only Unconfigured has the number 0 (R38). -/
theorem Orch.eq_unconfigured_of_value {o : Orch} (h : o.value = 0#3) : o = .unconfigured := by
  revert h
  cases o <;> decide

/-- The states that are not terminal have the numbers up to 4 (R38). -/
theorem Orch.value_le_four (o : Orch) (h : o.terminal = false) : o.value ≤ 4#3 := by
  revert h
  cases o <;> decide

/-- `set(o)` keeps STAGE at 4 or below (R38). -/
theorem stage_setOrch_le (st : Status) (o : Orch) (h : st.stage ≤ 4#3) : (st.setOrch o).stage ≤ 4#3 := by
  simp only [Status.setOrch]
  split
  next => exact h
  next hterminal => exact o.value_le_four (by simpa using hterminal)

@[simp] theorem LineRoles.get_set_same (l : LineRoles) (r : LineRole) (d : DataLine) : (l.set r d).get d = r := by
  cases d <;> rfl

theorem LineRoles.get_set_other (l : LineRoles) (r : LineRole) {d d' : DataLine} (h : d' ≠ d) :
    (l.set r d).get d' = l.get d' := by
  cases d <;> cases d' <;> simp_all [LineRoles.set, LineRoles.get]

/-! ### What the invariant depends on -/

/-- The invariant is about these fields alone. -/
theorem State.Inv.of_fields {s t : State} (h : s.Inv) (hc : t.status.configured = s.status.configured)
    (hr : t.status.latchReleased = s.status.latchReleased) (ho : t.status.orch = s.status.orch)
    (hg : t.status.stage = s.status.stage) (hm : t.xferMode = s.xferMode) (hl : t.lineRole = s.lineRole)
    (hp : t.params = s.params) (hcode : t.codeLegal) (hmem : t.memoriesWf) (hidle : t.idleWhenInactive)
    (hptr : t.pointerConfigured) : t.Inv where
  releasedOnlyConfigured := by simpa [State.releasedOnlyConfigured, hc, hr] using h.releasedOnlyConfigured
  configuredIsSingle := by simpa [State.configuredIsSingle, hc, hm] using h.configuredIsSingle
  onlyLatchLinePassive := by simpa [State.onlyLatchLinePassive, hl, hp, hr] using h.onlyLatchLinePassive
  orchNeedsConfigured := by simpa [State.orchNeedsConfigured, ho, hc] using h.orchNeedsConfigured
  idleWhenInactive := hidle
  orchLegal := by simpa [State.orchLegal, ho, hg] using h.orchLegal
  freshStage := by simpa [State.freshStage, ho, hg] using h.freshStage
  codeLegal := hcode
  memoriesWf := hmem
  pointerConfigured := hptr

/-- The state right after reset meets the invariant, whatever the parameters. -/
theorem reset_inv : State.reset.Inv where
  releasedOnlyConfigured := nofun
  configuredIsSingle := ⟨nofun, nofun⟩
  onlyLatchLinePassive := by
    intro d hd
    rw [reset_lineRole_get] at hd
    cases hd
  orchNeedsConfigured := fun h => absurd rfl h
  idleWhenInactive := fun _ => rfl
  orchLegal := (by decide : 0#3 ≠ 6#3 ∧ 0#3 ≤ 4#3)
  freshStage := fun _ => rfl
  codeLegal := (by decide : reservedCode 0xF#4 = false)
  memoriesWf := ⟨rfl, rfl, rfl⟩
  pointerConfigured := rfl

/-- Settles O18. -/
theorem resetMeetsInvariant : Obligations.ResetMeetsInvariant := reset_inv

/-- A block reset leaves no line passive and no other parameter in play. -/
theorem blockReset_inv (s : State) (rest : List Act) : State.Inv { blockReset s with port := rest } where
  releasedOnlyConfigured := reset_inv.releasedOnlyConfigured
  configuredIsSingle := reset_inv.configuredIsSingle
  onlyLatchLinePassive := by
    intro d hd
    have hbus : State.reset.lineRole.get d = .passiveIn := hd
    rw [reset_lineRole_get] at hbus
    cases hbus
  orchNeedsConfigured := reset_inv.orchNeedsConfigured
  idleWhenInactive := reset_inv.idleWhenInactive
  orchLegal := reset_inv.orchLegal
  freshStage := reset_inv.freshStage
  codeLegal := reset_inv.codeLegal
  memoriesWf := reset_inv.memoriesWf
  pointerConfigured := reset_inv.pointerConfigured

/-- Acts without a block reset keep the invariant (R46). -/
theorem Hosted.inv {s t : State} (h : Hosted s t) (hs : s.Inv) : t.Inv := by
  obtain ⟨a, f, tx, o, drops, e, p, log, rfl, -, htx⟩ := h
  exact hs.of_fields rfl rfl rfl rfl rfl rfl rfl hs.codeLegal ⟨htx hs.memoriesWf.1, hs.memoriesWf.2⟩ hs.idleWhenInactive
    hs.pointerConfigured

/-- What the outside world does before a line keeps the invariant. -/
theorem deliver_inv (acts : List Act) (s : State) (hs : s.Inv) : (deliver acts s).Inv := by
  obtain ⟨h, -⟩ | ⟨u, rest, -, hreset, -⟩ := deliver_cases acts s
  · exact h.inv hs
  · rw [hreset]
    exact blockReset_inv u rest

/-! ### The end of an operation -/

/-- The end of an operation keeps the invariant; only its code is new. -/
theorem endOp_inv (c : BitVec 4) (info : ErrInfo) (s : State) (hs : s.Inv) (hc : reservedCode c = false) :
    (endOp c info s).Inv :=
  hs.of_fields rfl rfl rfl rfl rfl rfl rfl hc hs.memoriesWf (fun _ => rfl) rfl

/-- Aborted needs no configured bus and leaves STAGE as it was (R38, R48). -/
theorem abortRecovery_inv (s : State) (hs : s.Inv) : (abortRecovery s).Inv := by
  by_cases h : s.latOp = 0x8#4
  · have aborted : abortRecovery s = s.setOrch .aborted := by simp [abortRecovery, State.setOrch, h]
    rw [aborted]
    exact
      { releasedOnlyConfigured := hs.releasedOnlyConfigured
        configuredIsSingle := hs.configuredIsSingle
        onlyLatchLinePassive := hs.onlyLatchLinePassive
        orchNeedsConfigured := fun _ h7 => absurd rfl h7
        idleWhenInactive := hs.idleWhenInactive
        orchLegal := ⟨Orch.value_ne_six .aborted, hs.orchLegal.2⟩
        freshStage := fun h0 => absurd (Orch.eq_unconfigured_of_value (o := .aborted) h0) (by decide)
        codeLegal := hs.codeLegal
        memoriesWf := hs.memoriesWf
        pointerConfigured := hs.pointerConfigured }
  · simpa [abortRecovery, h] using hs

/-- No error kind has a reserved code (R261). -/
theorem ErrKind.code_not_reserved (k : ErrKind) : reservedCode k.code = false := by cases k <;> decide

theorem raise_inv (k : ErrKind) (info : ErrInfo) (s : State) (hs : s.Inv) : (raise k info s).Inv :=
  endOp_inv _ _ _ (abortRecovery_inv s hs) k.code_not_reserved

/-! ### The lines -/

/-- After a line other than CONFIGURE's record the lines left see to their configured bus as before. -/
theorem linesConfigured_nextLines (c : Bool) (l : Line) (rest : List Line) (h : linesConfigured c (l :: rest) = true)
    (hneed : l = .needConfigured → c = true) (hrec : l ≠ .cfgRecord) : linesConfigured c (nextLines (l :: rest)) = true := by
  cases l with
  | needConfigured => simpa [linesConfigured, nextLines, hneed rfl] using h
  | cfgRecord => exact absurd rfl hrec
  | poll p => cases p <;> simpa [linesConfigured, nextLines] using h
  | markReleased | setOrch =>
    simp only [linesConfigured, Bool.and_eq_true] at h
    exact h.2
  | _ => simpa [linesConfigured, nextLines] using h

/-- Every line of a running operation keeps the invariant (R48). -/
theorem LineStep.inv {s t : State} {l : Line} {rest : List Line} (h : LineStep s l t) (hs : s.Inv)
    (hactive : s.status.active = true) (hp : s.ptr = l :: rest) : t.Inv := by
  have pointer : linesConfigured s.status.configured (l :: rest) = true := by
    have hptr := hs.pointerConfigured
    rwa [State.pointerConfigured, hp] at hptr
  have next (hneed : l = .needConfigured → s.status.configured = true) (hrec : l ≠ .cfgRecord) :
      linesConfigured s.status.configured (nextLines s.ptr) = true := by
    rw [hp]
    exact linesConfigured_nextLines _ l rest pointer hneed hrec
  have running {u : State} (hu : u.status.active = s.status.active) : u.idleWhenInactive := by
    intro hidle
    rw [hu, hactive] at hidle
    cases hidle
  have goes_on (u : State) (hu : u.status = s.status) (hm : u.xferMode = s.xferMode) (hl : u.lineRole = s.lineRole)
      (hpar : u.params = s.params) (hres : u.result = s.result) (htx : u.txbuf = s.txbuf) (hrx : u.rxbuf = s.rxbuf)
      (hlat : u.lat = s.lat) (hptr : linesConfigured s.status.configured u.ptr = true) : u.Inv :=
    hs.of_fields (by rw [hu]) (by rw [hu]) (by rw [hu]) (by rw [hu]) hm hl hpar
      (by simpa [State.codeLegal, hres] using hs.codeLegal) (by simpa [State.memoriesWf, htx, hrx, hlat] using hs.memoriesWf)
      (running (by rw [hu])) (by rw [State.pointerConfigured, hu, hptr])
  cases h with
  | passed hpass =>
    refine goes_on _ rfl rfl rfl rfl rfl rfl rfl rfl (next ?_ ?_)
    · rintro rfl
      exact hpass
    · rintro rfl
      exact hpass
  | operands hl =>
    refine goes_on _ rfl rfl rfl rfl rfl rfl rfl rfl (next ?_ ?_)
    · rintro rfl
      simp at hl
    · rintro rfl
      simp at hl
  | answered =>
    refine goes_on _ rfl rfl rfl rfl rfl rfl rfl rfl ?_
    simpa [hp, linesConfigured] using pointer
  | cfgEmitted | loaded | counted | waited | pinned =>
    exact goes_on _ rfl rfl rfl rfl rfl rfl rfl rfl (next (by simp) (by simp))
  | stored =>
    exact hs.of_fields rfl rfl rfl rfl rfl rfl rfl hs.codeLegal hs.memoriesWf (running rfl) (next (by simp) (by simp))
  | sent hf =>
    obtain ⟨htx, hrx, hlat⟩ := hs.memoriesWf
    refine hs.of_fields rfl rfl rfl rfl rfl rfl rfl hs.codeLegal ⟨htx, Memory.wf_writeBytes _ _ _ hrx, hlat⟩ (running rfl)
      (next ?_ ?_)
    · rintro rfl
      cases hf
    · rintro rfl
      cases hf
  | recorded =>
    exact
      { releasedOnlyConfigured := fun _ => rfl
        configuredIsSingle := ⟨fun _ => rfl, fun _ => rfl⟩
        onlyLatchLinePassive := hs.onlyLatchLinePassive
        orchNeedsConfigured := fun _ _ => rfl
        idleWhenInactive := running rfl
        orchLegal := hs.orchLegal
        freshStage := hs.freshStage
        codeLegal := hs.codeLegal
        memoriesWf := hs.memoriesWf
        pointerConfigured := by simpa [State.pointerConfigured, lineCfgRecord, hp, nextLines, linesConfigured] using pointer }
  | released =>
    have configured : s.status.configured = true := by
      simp only [linesConfigured, Bool.and_eq_true] at pointer
      exact pointer.1
    exact
      { releasedOnlyConfigured := fun _ => configured
        configuredIsSingle := hs.configuredIsSingle
        onlyLatchLinePassive := by
          intro d hd
          by_cases hline : d = s.params.latchLine.line
          · exact ⟨hline, rfl⟩
          · rw [lineMarkReleased, advance_lineRole, LineRoles.get_set_other _ _ hline] at hd
            exact absurd (hs.onlyLatchLinePassive d hd).1 hline
        orchNeedsConfigured := hs.orchNeedsConfigured
        idleWhenInactive := running rfl
        orchLegal := hs.orchLegal
        freshStage := hs.freshStage
        codeLegal := hs.codeLegal
        memoriesWf := hs.memoriesWf
        pointerConfigured := next (by simp) (by simp) }
  | ordered o =>
    have configured : s.status.configured = true := by
      simp only [linesConfigured, Bool.and_eq_true] at pointer
      exact pointer.1
    exact
      { releasedOnlyConfigured := hs.releasedOnlyConfigured
        configuredIsSingle := hs.configuredIsSingle
        onlyLatchLinePassive := hs.onlyLatchLinePassive
        orchNeedsConfigured := fun _ _ => configured
        idleWhenInactive := running rfl
        orchLegal := ⟨Orch.value_ne_six o, stage_setOrch_le s.status o hs.orchLegal.2⟩
        freshStage := by
          intro h0
          rw [Orch.eq_unconfigured_of_value h0]
          rfl
        codeLegal := hs.codeLegal
        memoriesWf := hs.memoriesWf
        pointerConfigured := next (by simp) (by simp) }
  | failed =>
    refine raise_inv _ _ _ (hs.of_fields rfl rfl rfl rfl rfl rfl rfl hs.codeLegal hs.memoriesWf (running rfl) ?_)
    exact hs.pointerConfigured
  | raised k info => exact raise_inv k info s hs
  | refused => exact endOp_inv _ _ s hs (by decide)
  | finished => exact endOp_inv _ _ s hs (by decide)

/-! ### Rounds, requests and steps -/

/-- A round of a running operation keeps the invariant. -/
theorem round_inv (s : State) (hs : s.Inv) : (round s).Inv := by
  have delivered := deliver_inv s.port s hs
  unfold round
  split
  next ha =>
    obtain ⟨-, hline⟩ | ⟨l, rest, hp, hline⟩ := runLine_step (deliver s.port s)
    · rwa [hline]
    · exact hline.inv delivered ha hp
  next => exact delivered

/-- Every operation's lines see to their own configured bus (R110, R141, R232). -/
theorem linesConfigured_lines (c : Bool) (i : Instr) (ls : List Line) (h : i.lines = some ls) :
    linesConfigured c (ls ++ [.endOk]) = true := by
  cases i with
  | rdsr1 | rdsr2 | rdsr3 | wren | wrsr1 => cases h
  | _ =>
    cases h
    cases c <;> rfl

/-- A request keeps the invariant, from its acceptance to its end. -/
theorem request_inv (i : Instr) (w : Word) (ls : List Line) (s : State) (hs : s.Inv) (hl : i.lines = some ls) :
    (request w ls s).Inv := by
  cases ha : s.status.active with
  | true =>
    rw [request_active w ls s ha]
    exact (hosted_dropRequest w s).inv hs
  | false =>
    obtain ⟨htx, hrx, -⟩ := hs.memoriesWf
    rw [request_idle w ls s ha]
    refine run_induction (fun u hu _ => round_inv u hu) _ _ ?_
    exact hs.of_fields rfl rfl rfl rfl rfl rfl rfl hs.codeLegal ⟨htx, hrx, htx⟩ nofun (linesConfigured_lines _ i ls hl)

/-- A reserved word keeps the invariant. -/
theorem reserved_inv (w : Word) (s : State) (hs : s.Inv) : (reserved w s).Inv := by
  unfold reserved
  split
  · exact (hosted_dropRequest w s).inv hs
  · obtain ⟨htx, hrx, -⟩ := hs.memoriesWf
    refine endOp_inv _ _ _ ?_ (by decide)
    exact hs.of_fields rfl rfl rfl rfl rfl rfl rfl hs.codeLegal ⟨htx, hrx, htx⟩ nofun rfl

/-- What a step of an idle block can be: nothing to do, a request, a reserved word, a block reset, or an act that is no request
(R88, R93, R290). -/
theorem step_idle_cases (s t : State) (hidle : s.status.active = false) (h : step s = .next t) :
    Hosted s t ∨
      ∃ a rest, s.port = a :: rest ∧
        ((∃ i w, encode i = .request w ∧ exec i { s with port := rest } = .next t) ∨
          (∃ w, t = reserved w { s with port := rest }) ∨
          a = .reset ∧ t = blockReset { s with port := rest } ∨ Hosted { s with port := rest } t) := by
  cases hport : s.port with
  | nil =>
    have hfetch : fetch s = .other (.next s) := by simp [fetch, hidle, hport]
    rw [step, hfetch] at h
    cases h
    exact .inl (.refl s)
  | cons a rest =>
    refine .inr ⟨a, rest, rfl, ?_⟩
    rw [step, fetch_idle s a rest hidle hport] at h
    cases a with
    | pause =>
      cases h
      exact .inr (.inr (.inr (.refl _)))
    | await => exact .inr (.inr (.inr (hosted_finishStatement h)))
    | reset =>
      cases h
      exact .inr (.inr (.inl ⟨rfl, rfl⟩))
    | chipReset =>
      cases h
      exact .inr (.inr (.inr (hosted_chipReset _)))
    | read i wd => exact .inr (.inr (.inr (hosted_hostRead h)))
    | write i wd v =>
      by_cases hreq : hostIndex s.params i = .req ∧ wd = .word
      · cases hdecode : decodeRequest v with
        | ok op =>
          simp only [fetchAct, hreq, hdecode, and_self, if_true] at h
          exact .inl ⟨op, v, (encode_of_decodeRequest v op hdecode).1, h⟩
        | error e =>
          simp only [fetchAct, hreq, hdecode, and_self, if_true] at h
          cases h
          exact .inr (.inl ⟨v, rfl⟩)
      · simp only [fetchAct, hreq, if_false] at h
        exact .inr (.inr (.inr (hosted_hostWrite h)))

/-- Settles O19: a running operation's step is a round; an idle block's is an act of the outside world, among them a request, whose
lines see to their own configured bus. -/
theorem everyStepKeepsInvariant : Obligations.EveryStepKeepsInvariant := by
  intro s t hs h
  cases ha : s.status.active with
  | true =>
    rw [step_active s ha] at h
    cases h
    exact round_inv s hs
  | false =>
    have waiting (rest : List Act) : State.Inv { s with port := rest } := (Hosted.set_port s rest).inv hs
    obtain ht | ⟨a, rest, -, ⟨i, w, hw, hexec⟩ | ⟨w, rfl⟩ | ⟨-, rfl⟩ | ht⟩ := step_idle_cases s t ha h
    · exact ht.inv hs
    · obtain ⟨ls, hl, hreq⟩ := exec_of_encode_request i w hw
      rw [hreq] at hexec
      cases hexec
      exact request_inv i w ls _ (waiting rest) hl
    · exact reserved_inv w _ (waiting rest)
    · exact blockReset_inv { s with port := rest } rest
    · exact ht.inv (waiting rest)

end Sys2Proof.Machine
end

section
/-! What only grows until a block reset (SPEC 10_state.md, R40 and R48; 45_line_mux.md, R205; 47_orchestrator.md, R236). -/
namespace Sys2Proof.Machine

open Sys2Proof.Config

/-! ### The order in which states grow -/

/-- From s to t the flags and the passive lines stay set, and the trace has only been added to. -/
structure Grows (s t : State) : Prop where
  configured : s.status.configured = true → t.status.configured = true
  latchReleased : s.status.latchReleased = true → t.status.latchReleased = true
  passive : ∀ d, s.lineRole.get d = .passiveIn → t.lineRole.get d = .passiveIn
  trace : s.trace <+: t.trace

theorem Grows.refl (s : State) : Grows s s := ⟨id, id, fun _ => id, List.prefix_rfl⟩

theorem Grows.trans {s t u : State} (h : Grows s t) (g : Grows t u) : Grows s u :=
  ⟨g.configured ∘ h.configured, g.latchReleased ∘ h.latchReleased, fun d => g.passive d ∘ h.passive d,
    h.trace.trans g.trace⟩

/-- A state with the same flags and lines and a longer trace. -/
theorem Grows.of_append {s t : State} (evs : List Event) (hc : t.status.configured = s.status.configured)
    (hr : t.status.latchReleased = s.status.latchReleased) (hl : t.lineRole = s.lineRole) (ht : t.trace = s.trace ++ evs) :
    Grows s t :=
  ⟨fun h => hc.trans h, fun h => hr.trans h, fun d h => by rwa [hl], ⟨evs, ht.symm⟩⟩

theorem Hosted.grows {s t : State} (h : Hosted s t) : Grows s t := by
  obtain ⟨a, f, tx, o, drops, e, p, log, rfl, -, -⟩ := h
  exact .of_append drops rfl rfl rfl rfl

theorem abortRecovery_flags (s : State) :
    (abortRecovery s).status.configured = s.status.configured ∧
      (abortRecovery s).status.latchReleased = s.status.latchReleased := by
  rw [abortRecovery_status]
  split <;> exact ⟨rfl, rfl⟩

theorem raise_grows (k : ErrKind) (info : ErrInfo) (s : State) : Grows s (raise k info s) :=
  .of_append [.done s.latOp k.code] (abortRecovery_flags s).1 (abortRecovery_flags s).2 rfl rfl

theorem frameFailed_grows (f : WireFrame) (r : Reply) (s : State) : Grows s (frameFailed f r s) :=
  .of_append [.done s.latOp 0x1#4] (by rw [frameFailed_status]; split <;> rfl) (by rw [frameFailed_status]; split <;> rfl)
    rfl rfl

/-- A line sets flags and passive lines and adds events; it clears nothing of them. -/
theorem LineStep.grows {s t : State} {l : Line} (h : LineStep s l t) : Grows s t := by
  cases h with
  | passed | answered | operands | loaded | counted | stored | ordered =>
    exact .of_append [] rfl rfl rfl (List.append_nil _).symm
  | cfgEmitted | waited | pinned => exact .of_append _ rfl rfl rfl rfl
  | recorded => exact ⟨fun _ => rfl, id, fun _ => id, List.prefix_rfl⟩
  | released =>
    refine ⟨id, fun _ => rfl, fun d hd => ?_, List.prefix_rfl⟩
    rw [lineMarkReleased, advance_lineRole]
    by_cases hline : d = s.params.latchLine.line
    · rw [hline, LineRoles.get_set_same]
    · rwa [LineRoles.get_set_other _ _ hline]
  | sent => exact .of_append _ rfl rfl rfl rfl
  | failed =>
    refine Grows.trans ?_ (frameFailed_grows _ _ _)
    exact .of_append _ rfl rfl rfl rfl
  | raised k info => exact raise_grows k info s
  | refused | finished => exact .of_append _ rfl rfl rfl rfl

theorem runLine_grows (s : State) : Grows s (runLine s) := by
  obtain ⟨-, hline⟩ | ⟨l, rest, -, hline⟩ := runLine_step s
  · rw [hline]
    exact .refl s
  · exact hline.grows

/-! ### Rounds without a block reset -/

/-- A round without a block reset is what the host did, and then the next line. -/
theorem round_eq_runLine (s : State) (hreset : Act.reset ∉ s.port) (ha : s.status.active = true) :
    round s = runLine (deliver s.port s) ∧ (deliver s.port s).status.active = true := by
  have active : (deliver s.port s).status.active = true := by
    obtain ⟨a, f, tx, o, drops, e, p, log, hd, -, -⟩ := (deliver_hosted s.port s hreset).1
    rw [hd]
    exact ha
  exact ⟨if_pos active, active⟩

/-- A round adds no block reset to what is left of the acts. -/
theorem round_reset_notMem (s : State) (hreset : Act.reset ∉ s.port) (ha : s.status.active = true) :
    Act.reset ∉ (round s).port := by
  rw [(round_eq_runLine s hreset ha).1, (runLine_keeps _).1]
  exact (deliver_hosted s.port s hreset).2

theorem round_grows (s : State) (hreset : Act.reset ∉ s.port) (ha : s.status.active = true) : Grows s (round s) := by
  rw [(round_eq_runLine s hreset ha).1]
  exact (deliver_hosted s.port s hreset).1.grows.trans (runLine_grows _)

theorem run_grows (n : Nat) (s : State) (hreset : Act.reset ∉ s.port) : Grows s (run n s) := by
  have kept : Grows s (run n s) ∧ Act.reset ∉ (run n s).port :=
    run_induction (I := fun u => Grows s u ∧ Act.reset ∉ u.port)
      (fun u hu ha => ⟨hu.1.trans (round_grows u hu.2 ha), round_reset_notMem u hu.2 ha⟩) n s ⟨.refl s, hreset⟩
  exact kept.1

/-! ### What the lines left to run have in common -/

/-- Lines with a property keep it as the pointer moves, if the property does not tell the poll loop's lines apart. -/
theorem forall_mem_nextLines {P : Line → Prop} (hpoll : ∀ p q, P (.poll p) → P (.poll q)) {ls : List Line}
    (h : ∀ l ∈ ls, P l) : ∀ l ∈ nextLines ls, P l := by
  cases ls with
  | nil => exact h
  | cons l rest =>
    obtain ⟨hl, hrest⟩ := List.forall_mem_cons.mp h
    cases l with
    | poll p => cases p <;> exact List.forall_mem_cons.mpr ⟨hpoll _ _ hl, hrest⟩
    | _ => exact hrest

/-- What all lines left to run have in common, the lines left after one of them have too. -/
theorem LineStep.forall_mem_ptr {P : Line → Prop} (hpoll : ∀ p q, P (.poll p) → P (.poll q)) {s t : State} {l : Line}
    (h : LineStep s l t) (hs : ∀ l ∈ s.ptr, P l) : ∀ l ∈ t.ptr, P l := by
  obtain ⟨-, ⟨hptr, -⟩ | ⟨-, hptr⟩⟩ | ⟨-, hptr⟩ := h.control
  · rw [hptr]
    exact forall_mem_nextLines hpoll hs
  · rw [hptr]
    exact fun l hl => hs l (List.mem_of_mem_tail hl)
  · simp [hptr]

/-! ### The orchestrator -/

/-- Outside RUN_RECOVERY an error leaves the orchestrator alone (R234). -/
theorem raise_orch (k : ErrKind) (info : ErrInfo) (s : State) (hop : s.latOp ≠ 0x8#4) :
    (raise k info s).status.orch = s.status.orch ∧ (raise k info s).status.stage = s.status.stage := by
  rw [raise_plain k info s hop]
  exact ⟨rfl, rfl⟩

/-- Outside RUN_RECOVERY only `set(o)` writes ORCH and STAGE (R232, R236). -/
theorem LineStep.orch {s t : State} {l : Line} (h : LineStep s l t) (hop : s.latOp ≠ 0x8#4)
    (hl : ∀ o, l ≠ .setOrch o) : t.status.orch = s.status.orch ∧ t.status.stage = s.status.stage := by
  cases h with
  | ordered o => exact absurd rfl (hl o)
  | raised k info => exact raise_orch k info s hop
  | failed => exact raise_orch _ _ _ hop
  | _ => exact ⟨rfl, rfl⟩

/-- ORCH and STAGE hold o and g, and the lines left cannot change them: a RUN_RECOVERY stands at its line 1, and any other operation
has no line that sets the orchestrator. -/
structure OrchStays (o g : BitVec 3) (s : State) : Prop where
  orch : s.status.orch = o
  stage : s.status.stage = g
  lines : s.status.active = true →
    s.ptr.head? = some .needFresh ∨ s.latOp ≠ 0x8#4 ∧ ∀ l ∈ s.ptr, ∀ o', l ≠ .setOrch o'

theorem Hosted.orchStays {o g : BitVec 3} {s t : State} (h : Hosted s t) (hs : OrchStays o g s) : OrchStays o g t := by
  obtain ⟨a, f, tx, ov, drops, e, p, log, rfl, -, -⟩ := h
  exact ⟨hs.orch, hs.stage, hs.lines⟩

/-- With ORCH not 0 a line leaves the orchestrator alone: RUN_RECOVERY's line 1 refuses (R231, R236). -/
theorem LineStep.orchStays {o g : BitVec 3} {s t : State} {l : Line} {rest : List Line} (h : LineStep s l t)
    (ho : o ≠ 0#3) (hs : OrchStays o g s) (ha : s.status.active = true) (hp : s.ptr = l :: rest) : OrchStays o g t := by
  obtain hfresh | ⟨hop, hlines⟩ := hs.lines ha
  · obtain rfl : l = .needFresh := by simpa [hp] using hfresh
    cases h with
    | refused => exact ⟨hs.orch, hs.stage, nofun⟩
    | passed hpass => exact absurd (hs.orch.symm.trans hpass.1) ho
    | operands hl => simp at hl
    | sent hf => cases hf
    | failed hf => cases hf
    | raised k info hk => cases hk
  · obtain ⟨horch, hstage⟩ := h.orch hop (hlines l (by rw [hp]; exact List.mem_cons_self))
    have latched : t.latOp = s.latOp := by rw [State.latOp, State.latOp, h.latched.1]
    refine ⟨horch.trans hs.orch, hstage.trans hs.stage, fun _ => .inr ⟨by rwa [latched], ?_⟩⟩
    exact h.forall_mem_ptr (P := fun l => ∀ o', l ≠ .setOrch o') (fun _ _ _ _ => nofun) hlines

/-- Without a block reset a run leaves an orchestrator that is not at 0 alone, if its lines cannot change it. -/
theorem run_orchStays {o g : BitVec 3} (ho : o ≠ 0#3) (n : Nat) (s : State) (hs : OrchStays o g s)
    (hreset : Act.reset ∉ s.port) : OrchStays o g (run n s) := by
  have kept : OrchStays o g (run n s) ∧ Act.reset ∉ (run n s).port := by
    refine run_induction (I := fun u => OrchStays o g u ∧ Act.reset ∉ u.port) (fun u hu ha => ⟨?_, ?_⟩) n s ⟨hs, hreset⟩
    · obtain ⟨hround, hactive⟩ := round_eq_runLine u hu.2 ha
      have delivered := (deliver_hosted u.port u hu.2).1.orchStays hu.1
      rw [hround]
      obtain ⟨-, hline⟩ | ⟨l, rest, hp, hline⟩ := runLine_step (deliver u.port u)
      · rwa [hline]
      · exact hline.orchStays ho delivered hactive hp
    · exact round_reset_notMem u hu.2 ha
  exact kept.1

/-- RUN_RECOVERY alone has OP 0x8 and lines that set the orchestrator (R86, R232). -/
theorem lines_of_not_recovers (i : Instr) (w : Word) (ls : List Line) (hw : encode i = .request w)
    (hl : i.lines = some ls) (hi : i.recovers = false) :
    opField w ≠ 0x8#4 ∧ ∀ l ∈ ls ++ [.endOk], ∀ o, l ≠ .setOrch o := by
  cases i with
  | rdsr1 | rdsr2 | rdsr3 | wren | wrsr1 => cases hw
  | runRecovery => cases hi
  | transferRdsr1 | transferRdsr2 | transferRdsr3 | transferWren | transferWrsr1 =>
    cases hw
    cases hl
    exact ⟨by decide, by simp [transferLines]⟩
  | configure | transfer | waitReady | enableWrite | readDecode | releaseLatch | resetProtection =>
    cases hw
    cases hl
    refine ⟨by rw [opField_requestWord]; decide, ?_⟩
    simp [configureLines, transferLines, waitReadyLines, enableWriteLines, readDecodeLines, releaseLatchLines,
      resetProtectionLines]

/-- The lines of a RUN_RECOVERY begin with its line 1 (R232). -/
theorem lines_of_recovers (i : Instr) (ls : List Line) (hl : i.lines = some ls) (hi : i.recovers = true) :
    ls = runRecoveryLines := by
  cases i with
  | runRecovery =>
    cases hl
    rfl
  | _ => cases hi

/-- A request from a terminal state of the orchestrator leaves ORCH and STAGE as they are (R236). -/
theorem exec_orchStays (i : Instr) (w : Word) (s t : State) (hw : encode i = .request w) (hidle : s.status.active = false)
    (ho : s.status.orch ≠ 0#3) (hreset : Act.reset ∉ s.port) (h : exec i s = .next t) :
    t.status.orch = s.status.orch ∧ t.status.stage = s.status.stage := by
  obtain ⟨ls, hl, hreq⟩ := exec_of_encode_request i w hw
  rw [hreq, request_idle w ls s hidle] at h
  cases h
  have accepted : OrchStays s.status.orch s.status.stage (accept w (ls ++ [.endOk]) s) := by
    refine ⟨rfl, rfl, fun _ => ?_⟩
    cases hi : i.recovers with
    | true =>
      rw [lines_of_recovers i ls hl hi]
      exact .inl rfl
    | false => exact .inr (lines_of_not_recovers i w ls hw hl hi)
  have stays := run_orchStays ho roundLimit _ accepted hreset
  exact ⟨stays.orch, stays.stage⟩

/-! ### Steps -/

/-- A request of an idle block with no block reset to come grows the state. -/
theorem exec_grows (i : Instr) (w : Word) (s t : State) (hw : encode i = .request w) (hidle : s.status.active = false)
    (hreset : Act.reset ∉ s.port) (h : exec i s = .next t) : Grows s t := by
  obtain ⟨ls, -, hreq⟩ := exec_of_encode_request i w hw
  rw [hreq, request_idle w ls s hidle] at h
  cases h
  refine Grows.trans ?_ (run_grows roundLimit _ (by exact hreset))
  exact .of_append [] rfl rfl rfl (List.append_nil _).symm

/-- A reserved word at an idle block grows the state and leaves the orchestrator alone (R93). -/
theorem reserved_grows (w : Word) (s : State) (hidle : s.status.active = false) :
    Grows s (reserved w s) ∧ (reserved w s).status.orch = s.status.orch ∧ (reserved w s).status.stage = s.status.stage := by
  have rejected : reserved w s = reject (accept w [] s) := by simp [reserved, hidle]
  rw [rejected]
  exact ⟨.of_append _ rfl rfl rfl rfl, rfl, rfl⟩

/-- Settles O20: a running operation's round and every act of an idle block grow the state; an idle block's acts leave a terminal
orchestrator alone, a request among them. -/
theorem sessionStateOnlyGrows : Obligations.SessionStateOnlyGrows := by
  intro s t h hreset
  suffices grown : Grows s t ∧ (s.status.active = false → s.status.orch ≠ 0#3 →
      t.status.orch = s.status.orch ∧ t.status.stage = s.status.stage) by
    refine ⟨grown.1.configured, grown.1.latchReleased, grown.1.passive, grown.1.trace, fun hidle hterminal => ?_⟩
    exact grown.2 hidle (by rintro h0; rw [h0] at hterminal; revert hterminal; decide)
  cases ha : s.status.active with
  | true =>
    rw [step_active s ha] at h
    cases h
    exact ⟨round_grows s hreset ha, nofun⟩
  | false =>
    have hosted {u v : State} (huv : Hosted u v) :
        v.status.orch = u.status.orch ∧ v.status.stage = u.status.stage := by
      obtain ⟨a, f, tx, o, drops, e, p, log, rfl, -, -⟩ := huv
      exact ⟨rfl, rfl⟩
    obtain ht | ⟨a, rest, hport, hcase⟩ := step_idle_cases s t ha h
    · exact ⟨ht.grows, fun _ _ => hosted ht⟩
    · have waiting : Hosted s { s with port := rest } := .set_port s rest
      rw [hport, List.mem_cons, not_or] at hreset
      obtain ⟨i, w, hw, hexec⟩ | ⟨w, rfl⟩ | ⟨rfl, -⟩ | ht := hcase
      · exact ⟨waiting.grows.trans (exec_grows i w _ t hw ha hreset.2 hexec),
          fun _ ho => exec_orchStays i w { s with port := rest } t hw ha ho hreset.2 hexec⟩
      · obtain ⟨hgrows, horch⟩ := reserved_grows w { s with port := rest } ha
        exact ⟨waiting.grows.trans hgrows, fun _ _ => horch⟩
      · exact absurd rfl hreset.1
      · exact ⟨waiting.grows.trans ht.grows, fun _ _ => hosted ht⟩

end Sys2Proof.Machine
end

section
/-! Every operation ends (SPEC 30_encoding.md, R89; 47_orchestrator.md, R244): a bound on the rounds left, which every round lowers,
whatever the environment answers and the host does. -/
namespace Sys2Proof.Machine

open Sys2Proof.Config

/-! ### The rounds left -/

/-- A bound on the rounds of one line of a flattened list; the poll loop runs its five lines at most 2^14 times, the values RETRY
can hold. -/
def lineRounds : Line → Nat
  | .poll _ => 5 * 2 ^ 14 + 2
  | _ => 1

/-- The rounds left of the poll loop at a line, with RETRY at r, which counts down to 0. -/
def pollRounds (r : BitVec 14) : PollLine → Nat
  | .read => 5 * (r - 1#14).toNat + 5
  | .ready => 5 * (r - 1#14).toNat + 4
  | .count => 5 * (r - 1#14).toNat + 3
  | .exhausted => 5 * r.toNat + 2
  | .wait => 5 * (r - 1#14).toNat + 6

/-- The rounds of lines that have not begun. -/
def linesRounds (ls : List Line) : Nat := (ls.map lineRounds).sum

/-- The rounds left of a running operation. -/
def State.roundsLeft (s : State) : Nat :=
  match s.ptr with
  | [] => 0
  | .poll p :: rest => pollRounds s.retry p + linesRounds rest
  | l :: rest => lineRounds l + linesRounds rest

theorem linesRounds_cons (l : Line) (ls : List Line) : linesRounds (l :: ls) = lineRounds l + linesRounds ls := by
  simp [linesRounds]

/-- The line that runs next bounds no more rounds than it did before. -/
theorem pollRounds_le (r : BitVec 14) (p : PollLine) : pollRounds r p ≤ lineRounds (.poll p) := by
  have value : r.toNat < 2 ^ 14 := r.isLt
  have less : (r - 1#14).toNat < 2 ^ 14 := (r - 1#14).isLt
  cases p <;> simp only [pollRounds, lineRounds] <;> omega

theorem roundsLeft_le (s : State) : s.roundsLeft ≤ linesRounds s.ptr := by
  unfold State.roundsLeft
  split
  next => exact Nat.zero_le _
  next p rest hp =>
    rw [hp, linesRounds_cons]
    exact Nat.add_le_add_right (pollRounds_le s.retry p) _
  next l rest _ hp => rw [hp, linesRounds_cons]

theorem roundsLeft_poll {s : State} {p : PollLine} {rest : List Line} (hp : s.ptr = .poll p :: rest) :
    s.roundsLeft = pollRounds s.retry p + linesRounds rest := by
  simp [State.roundsLeft, hp]

/-- A line outside the poll loop is one round. -/
theorem roundsLeft_line {s : State} {l : Line} {rest : List Line} (hp : s.ptr = l :: rest) (hl : ∀ p, l ≠ .poll p) :
    s.roundsLeft = 1 + linesRounds rest := by
  cases l with
  | poll p => exact absurd rfl (hl p)
  | _ => simp [State.roundsLeft, hp, lineRounds]

/-- While a line is left, a round is. -/
theorem one_le_roundsLeft (s : State) (h : s.ptr ≠ []) : 1 ≤ s.roundsLeft := by
  cases hp : s.ptr with
  | nil => exact absurd hp h
  | cons l rest =>
    cases l with
    | poll p =>
      rw [roundsLeft_poll hp]
      cases p <;> simp only [pollRounds] <;> omega
    | _ =>
      rw [roundsLeft_line hp nofun]
      omega

/-! ### A line lowers the bound -/

/-- A line outside the poll loop leaves at most the rounds of the lines after it. -/
theorem roundsLeft_lt_of_next {s t : State} {l : Line} {rest : List Line} (hp : s.ptr = l :: rest) (hl : ∀ p, l ≠ .poll p)
    (ht : t.ptr = rest) : t.roundsLeft < s.roundsLeft := by
  have after := roundsLeft_le t
  rw [ht] at after
  rw [roundsLeft_line hp hl]
  omega

/-- Outside the poll loop the next line is the rest of the list. -/
theorem nextLines_of_not_poll (l : Line) (rest : List Line) (hl : ∀ p, l ≠ .poll p) : nextLines (l :: rest) = rest := by
  cases l with
  | poll p => exact absurd rfl (hl p)
  | _ => rfl

/-- In the poll loop each line has fewer rounds left than the one before it; RETRY is counted once each time around (R151). -/
theorem LineStep.poll_roundsLeft {s t : State} {p : PollLine} {rest : List Line} (h : LineStep s (.poll p) t)
    (hp : s.ptr = .poll p :: rest) : t.status.active = false ∨ t.roundsLeft < s.roundsLeft := by
  have before := roundsLeft_poll hp
  cases h with
  | raised | failed => exact .inl rfl
  | operands hl => simp at hl
  | answered =>
    right
    have after := roundsLeft_le s.leaveLoop
    rw [leaveLoop_ptr, hp, List.tail_cons] at after
    simp only [before, pollRounds]
    omega
  | counted =>
    right
    have after : (linePollCount s).roundsLeft = pollRounds (s.retry - 1#14) .exhausted + linesRounds rest :=
      roundsLeft_poll (by simp [linePollCount, hp, nextLines])
    simp only [before, after, pollRounds]
    omega
  | waited =>
    right
    have after : (linePollWait s).roundsLeft = pollRounds s.retry .read + linesRounds rest :=
      roundsLeft_poll (by simp [linePollWait, hp, nextLines])
    simp only [before, after, pollRounds]
    omega
  | passed hpass =>
    right
    cases p with
    | read | count | wait => exact hpass.elim
    | ready =>
      have after : s.advance.roundsLeft = pollRounds s.retry .count + linesRounds rest :=
        roundsLeft_poll (by simp [hp, nextLines])
      simp only [before, after, pollRounds]
      omega
    | exhausted =>
      have after : s.advance.roundsLeft = pollRounds s.retry .wait + linesRounds rest :=
        roundsLeft_poll (by simp [hp, nextLines])
      have budget : (s.retry - 1#14).toNat + 1 = s.retry.toNat := by
        have nonzero : s.retry ≠ 0#14 := hpass
        bv_omega
      simp only [before, after, pollRounds]
      omega
  | sent hf =>
    right
    cases p with
    | ready | count | exhausted | wait => cases hf
    | read =>
      rw [before]
      refine lt_of_eq_of_lt (roundsLeft_poll (p := .ready) (rest := rest) (by simp [hp, nextLines])) ?_
      show pollRounds s.retry .ready + _ < _
      simp only [pollRounds]
      omega

/-- A line ends the operation or lowers the rounds left. -/
theorem LineStep.roundsLeft {s t : State} {l : Line} {rest : List Line} (h : LineStep s l t) (hp : s.ptr = l :: rest) :
    t.status.active = false ∨ t.roundsLeft < s.roundsLeft := by
  by_cases hl : ∃ p, l = .poll p
  · obtain ⟨p, rfl⟩ := hl
    exact h.poll_roundsLeft hp
  · have outside : ∀ p, l ≠ .poll p := fun p hlp => hl ⟨p, hlp⟩
    obtain ⟨-, ⟨hptr, -⟩ | ⟨hready, -⟩⟩ | ⟨hidle, -⟩ := h.control
    · exact .inr (roundsLeft_lt_of_next hp outside (by rw [hptr, hp, nextLines_of_not_poll l rest outside]))
    · exact absurd hready (outside .ready)
    · exact .inl hidle

/-! ### A running operation has a line to run -/

/-- The last line left is `return OK`. -/
def State.returns (s : State) : Prop := s.status.active = true → s.ptr.getLast? = some .endOk

theorem LineStep.returns {s t : State} {l : Line} {rest : List Line} (h : LineStep s l t) (hs : s.returns)
    (ha : s.status.active = true) (hp : s.ptr = l :: rest) : t.returns := by
  have last := hs ha
  rw [hp] at last
  intro hactive
  obtain ⟨-, ⟨hptr, hl⟩ | ⟨rfl, hptr⟩⟩ | ⟨hidle, -⟩ := h.control
  · have rest_last : rest.getLast? = some .endOk := by
      cases rest with
      | nil =>
        rw [List.getLast?_singleton, Option.some.injEq] at last
        exact absurd last hl
      | cons m ms => rwa [List.getLast?_cons_cons] at last
    have more (l' : Line) : (l' :: rest).getLast? = some .endOk := by
      simp [List.getLast?_cons, rest_last]
    rw [hptr, hp]
    cases l with
    | poll p => cases p <;> exact more _
    | _ => exact rest_last
  · rw [hptr, hp, List.tail_cons]
    cases rest with
    | nil => simp at last
    | cons m ms => rwa [List.getLast?_cons_cons] at last
  · rw [hidle] at hactive
    cases hactive

/-- A round ends the operation or lowers the rounds left, whatever the outside world does before the line. -/
theorem round_roundsLeft (s : State) (hs : s.returns) (ha : s.status.active = true) :
    (round s).returns ∧ ((round s).status.active = false ∨ (round s).roundsLeft < s.roundsLeft) := by
  obtain ⟨hosted, -⟩ | ⟨u, rest, -, hreset, -⟩ := deliver_cases s.port s
  · have same : (deliver s.port s).ptr = s.ptr ∧ (deliver s.port s).status.active = s.status.active ∧
        (deliver s.port s).retry = s.retry := by
      obtain ⟨a, f, tx, o, drops, e, p, log, hd, -, -⟩ := hosted
      rw [hd]
      exact ⟨rfl, rfl, rfl⟩
    obtain ⟨hptr, hactive, hretry⟩ := same
    have bound : (deliver s.port s).roundsLeft = s.roundsLeft := by
      simp only [State.roundsLeft, hptr, hretry]
    have running : (deliver s.port s).status.active = true := hactive.trans ha
    have returns : (deliver s.port s).returns := fun _ => by rw [hptr]; exact hs ha
    rw [round, if_pos running, ← bound]
    obtain ⟨hnil, -⟩ | ⟨l, rest, hp, hline⟩ := runLine_step (deliver s.port s)
    · rw [hptr] at hnil
      have last := hs ha
      rw [hnil] at last
      cases last
    · exact ⟨hline.returns returns running hp, hline.roundsLeft hp⟩
  · have idle : (deliver s.port s).status.active = false := by
      rw [hreset]
      rfl
    have stopped : round s = deliver s.port s := if_neg (by simp [idle])
    rw [stopped]
    exact ⟨fun hactive => by simp [idle] at hactive, .inl idle⟩

/-- A run of as many rounds as are left ends the operation. -/
theorem run_ends (n : Nat) (s : State) (hs : s.returns) (hn : s.roundsLeft ≤ n) : (run n s).status.active = false := by
  induction n generalizing s with
  | zero =>
    by_contra hactive
    have ha : s.status.active = true := by simpa [run] using hactive
    have left := one_le_roundsLeft s (by rintro hnil; simpa [hnil] using hs ha)
    omega
  | succ n ih =>
    cases ha : s.status.active with
    | false => rwa [run_inactive _ s ha]
    | true =>
      rw [run_succ n s ha]
      obtain ⟨returns, hidle | hless⟩ := round_roundsLeft s hs ha
      · rwa [run_inactive n _ hidle]
      · exact ih _ returns (by omega)

/-- Every operation has fewer rounds than the limit: at most seven waits (R244, log entry 18). -/
theorem linesRounds_lines_le (i : Instr) (ls : List Line) (h : i.lines = some ls) :
    linesRounds (ls ++ [.endOk]) ≤ roundLimit := by
  cases i with
  | rdsr1 | rdsr2 | rdsr3 | wren | wrsr1 => cases h
  | _ =>
    cases h
    decide

/-- Every request of an idle block ends within the limit. -/
theorem request_ends (i : Instr) (w : Word) (ls : List Line) (s : State) (hl : i.lines = some ls) :
    (run roundLimit (accept w (ls ++ [.endOk]) s)).status.active = false := by
  refine run_ends _ _ (fun _ => by simp) ?_
  exact (roundsLeft_le _).trans (linesRounds_lines_le i ls hl)

/-! ### The run of single steps -/

/-- A step that answers a next state, then the rest. -/
theorem coreRun_succ (M : Host.Core) (m : Nat) (s t : M.State) (h : M.step s = .next t) : M.run (m + 1) s = M.run m t := by
  simp only [Host.Core.run, h]

/-- A run of rounds to the end of the operation is a run of the machine's steps, all but the last state of it running. -/
theorem steps_of_run (n : Nat) (s : State) (h : (run n s).status.active = false) :
    ∃ m, Host.Core.run Sys2Proof.core m s = .next (run n s) ∧
      ∀ (k : Nat) (u : State), k < m → Host.Core.run Sys2Proof.core k s = .next u → u.status.active = true := by
  induction n generalizing s with
  | zero => exact ⟨0, rfl, fun _ _ hk => absurd hk (Nat.not_lt_zero _)⟩
  | succ n ih =>
    cases ha : s.status.active with
    | false =>
      rw [run_inactive _ s ha]
      exact ⟨0, rfl, fun _ _ hk => absurd hk (Nat.not_lt_zero _)⟩
    | true =>
      rw [run_succ n s ha] at h ⊢
      have first (m : Nat) : Host.Core.run Sys2Proof.core (m + 1) s = Host.Core.run Sys2Proof.core m (round s) :=
        coreRun_succ Sys2Proof.core m s (round s) (step_active s ha)
      obtain ⟨m, hrun, hrunning⟩ := ih (round s) h
      refine ⟨m + 1, (first m).trans hrun, fun k u hk hu => ?_⟩
      cases k with
      | zero =>
        cases hu
        exact ha
      | succ k => exact hrunning k u (by omega) ((first k).symm.trans hu)

/-- Settles O15: the request's run ends within its limit, and each of its rounds is a step. -/
theorem requestIsTheRunOfItsSteps : Obligations.RequestIsTheRunOfItsSteps := by
  intro i w ls s hw hl hidle
  obtain ⟨ls', hl', hexec⟩ := exec_of_encode_request i w hw
  obtain rfl : ls' = ls := Option.some.inj (hl'.symm.trans hl)
  have ended := request_ends i w ls' s hl
  obtain ⟨n, hrun, hrunning⟩ := steps_of_run roundLimit _ ended
  exact ⟨n, _, hrun, ended, by rw [hexec, request_idle w ls' s hidle], hrunning⟩

end Sys2Proof.Machine
end

section
/-! Host accesses and a running operation (SPEC 10_state.md, R37 and R46; 70_reset_and_hazards.md, R297): lines do not look at what
the host owns, and the host's accesses touch nothing else. -/
namespace Sys2Proof.Machine

open Sys2Proof.Config

/-! ### A line does not look at what the host owns -/

@[simp] theorem unhosted_advance (s : State) : s.advance.unhosted = s.unhosted.advance := rfl

/-- The sequencer's events are no `Drop`. -/
theorem unhosted_emit (s : State) (e : Event) (h : e.isDrop = false) : (s.emit e).unhosted = s.unhosted.emit e := by
  simp [State.unhosted, State.emit, h]

theorem unhosted_endOp (c : BitVec 4) (info : ErrInfo) (s : State) :
    (endOp c info s).unhosted = endOp c info s.unhosted := by
  simp [State.unhosted, endOp, Event.isDrop, State.latOp]

theorem unhosted_abortRecovery (s : State) : (abortRecovery s).unhosted = abortRecovery s.unhosted := by
  by_cases h : s.latOp = 0x8#4
  · have h' : s.unhosted.latOp = 0x8#4 := h
    simp only [abortRecovery, h, h', if_true]
    rfl
  · have h' : s.unhosted.latOp ≠ 0x8#4 := h
    simp only [abortRecovery, h, h', if_false]

theorem unhosted_raise (k : ErrKind) (info : ErrInfo) (s : State) : (raise k info s).unhosted = raise k info s.unhosted := by
  simp only [raise, unhosted_endOp, unhosted_abortRecovery]

theorem unhosted_frameSent (f : WireFrame) (r : Reply) (s : State) :
    (frameSent f r s).unhosted = frameSent f r s.unhosted := by
  simp [State.unhosted, frameSent, frameEvent, Event.isDrop, Status.stale]

theorem unhosted_afterFrame (f : WireFrame) (r : Reply) (s : State) :
    (afterFrame f r s).unhosted = afterFrame f r s.unhosted := by
  unfold afterFrame
  rw [← unhosted_frameSent]
  split
  · rfl
  · exact unhosted_raise _ _ _

/-- A frame's reply and effects are those the block alone gives. -/
theorem unhosted_xfer (f : WireFrame) (s : State) : (xfer f s).unhosted = xfer f s.unhosted := by
  have mode : s.unhosted.xferMode = s.xferMode := rfl
  unfold xfer
  rw [mode]
  split
  · exact unhosted_raise _ _ s
  · split
    · exact unhosted_raise _ _ s
    · exact unhosted_afterFrame f _ _

/-- A line makes of the block what it makes of it without the host (R37, R46). -/
theorem unhosted_lineEffect (l : Line) (s : State) : (lineEffect l s).unhosted = lineEffect l s.unhosted := by
  have tested (p : Prop) [Decidable p] (t u : State) :
      (if p then t else u).unhosted = if p then t.unhosted else u.unhosted := apply_ite State.unhosted p t u
  cases l with
  | needConfigured | needUnconfigured | needUnreleased | cfgCheck | xferCheck | verifyLatch | verifyCleared =>
    exact (tested _ _ _).trans (by simp only [unhosted_raise, unhosted_advance]; rfl)
  | needFresh => exact (tested _ _ _).trans (by simp only [reject, unhosted_endOp, unhosted_advance]; rfl)
  | cfgOperands | cfgTransport | cfgRecord | xferDescriptor | xferLoad | loadRetry | snapStore | markReleased | setOrch =>
    rfl
  | cfgEmit => exact congrArg State.advance (unhosted_emit s _ rfl)
  | pinMode => simp [lineEffect, linePinMode, State.emit, State.advance, State.unhosted, Event.isDrop]
  | xferFrame | sendWren | verifyRead | snapRead1 | snapRead2 | snapRead3 | sendWrsr1 => exact unhosted_xfer _ s
  | endOk => exact unhosted_endOp _ _ s
  | poll p =>
    cases p with
    | read => exact unhosted_xfer _ s
    | ready => exact (tested _ _ _).trans rfl
    | count => rfl
    | exhausted => exact (tested _ _ _).trans (by simp only [unhosted_raise, unhosted_advance]; rfl)
    | wait => exact congrArg State.advance (unhosted_emit s _ rfl)

theorem unhosted_runLine (s : State) : (runLine s).unhosted = runLine s.unhosted := by
  cases hp : s.ptr with
  | nil =>
    have hp' : s.unhosted.ptr = [] := hp
    simp only [runLine, hp, hp']
  | cons l rest =>
    rw [runLine_cons s l rest hp, runLine_cons s.unhosted l rest hp, unhosted_lineEffect]

/-! ### The host's accesses touch nothing else -/

theorem unhosted_writeIndex (k : HostIndex) (i : Nat) (v : Word) (s : State) : (writeIndex k i v s).unhosted = s.unhosted := by
  cases k with
  | req =>
    simp only [writeIndex]
    split
    · simp [State.unhosted, dropRequest, Event.isDrop]
    · rfl
  | _ => rfl

/-- Accesses delivered before a line leave the block as it is. -/
theorem unhosted_deliver (acts : List Act) (s : State) (h : ∀ a ∈ acts, a.access = true) :
    (deliver acts s).unhosted = s.unhosted := by
  induction acts generalizing s with
  | nil => rfl
  | cons a rest ih =>
    obtain ⟨haccess, hrest⟩ := List.forall_mem_cons.mp h
    cases a with
    | pause | await => rfl
    | reset | chipReset => cases haccess
    | write i wd v =>
      cases hw : hostWrite i wd v s with
      | next t =>
        have delivered : deliver (.write i wd v :: rest) s = deliver rest t := by simp [deliver, hw]
        rw [delivered, ih t hrest, hostWrite_next i wd v s t hw, unhosted_writeIndex]
      | fault r => simp [deliver, hw, State.unhosted]
      | refused r => simp [deliver, hw, State.unhosted]
    | read i wd =>
      cases hr : hostRead i wd s with
      | next t =>
        have delivered : deliver (.read i wd :: rest) s = deliver rest t := by simp [deliver, hr]
        rw [delivered, ih t hrest, hostRead_next i wd s t hr]
        rfl
      | fault r => simp [deliver, hr, State.unhosted]
      | refused r => simp [deliver, hr, State.unhosted]

/-- What is left of the accesses after a delivery is accesses. -/
theorem deliver_port_access (acts : List Act) (s : State) (h : ∀ a ∈ acts, a.access = true) :
    ∀ a ∈ (deliver acts s).port, a.access = true := by
  obtain ⟨-, hport⟩ | ⟨_, _, _, _, hreset⟩ := deliver_cases acts s
  · exact fun a ha => h a (hport a ha)
  · cases h _ hreset

/-! ### Runs -/

/-- A round with host accesses is the round of the block alone. -/
theorem unhosted_round (s : State) (h : ∀ a ∈ s.port, a.access = true) (ha : s.status.active = true) :
    (round s).unhosted = round s.unhosted ∧ ∀ a ∈ (round s).port, a.access = true := by
  have no_reset : Act.reset ∉ s.port := fun hr => by cases h _ hr
  obtain ⟨hround, -⟩ := round_eq_runLine s no_reset ha
  have alone : round s.unhosted = runLine s.unhosted := round_quiet s.unhosted rfl ha
  rw [hround, alone, unhosted_runLine, unhosted_deliver s.port s h, (runLine_keeps _).1]
  exact ⟨rfl, deliver_port_access s.port s h⟩

theorem unhosted_run (n : Nat) (s : State) (h : ∀ a ∈ s.port, a.access = true) : (run n s).unhosted = run n s.unhosted := by
  induction n generalizing s with
  | zero => rfl
  | succ n ih =>
    cases ha : s.status.active with
    | false => rw [run_inactive _ s ha, run_inactive _ s.unhosted ha]
    | true =>
      obtain ⟨hround, hport⟩ := unhosted_round s h ha
      rw [run_succ n s ha, run_succ n s.unhosted ha, ih _ hport, hround]

/-- Settles O17: both runs are the run of the block alone, from the same accepted request. -/
theorem hostAccessesDoNotInterfere : Obligations.HostAccessesDoNotInterfere := by
  intro i w s t u p q hw hidle hp hq ht hu
  obtain ⟨ls, -, hexec⟩ := exec_of_encode_request i w hw
  have alone (acts : List Act) (v : State) (hacts : ∀ a ∈ acts, a.access = true) (hv : exec i { s with port := acts } = .next v) :
      v.unhosted = run roundLimit (accept w (ls ++ [.endOk]) s).unhosted := by
    rw [hexec, request_idle w ls { s with port := acts } hidle] at hv
    cases hv
    exact unhosted_run roundLimit _ hacts
  rw [alone p t hp ht, alone q u hq hu]

end Sys2Proof.Machine
end

section
/-! Requests in a quiet world, by induction over their lines: what they leave alone (SPEC 10_state.md, R48) and the codes they end
with (60_exceptions.md, R262). -/
namespace Sys2Proof.Machine

open Sys2Proof.Config

/-! ### Induction over the lines of a request -/

/-- What every line keeps, a run in a quiet world keeps. -/
theorem quiet_run_induction {I : State → Prop}
    (hline : ∀ s l rest t, I s → s.status.active = true → s.ptr = l :: rest → LineStep s l t → I t) (n : Nat) (s : State)
    (hq : s.quiet = true) (h : I s) : I (run n s) := by
  have kept : I (run n s) ∧ (run n s).quiet = true := by
    refine run_induction (I := fun u => I u ∧ u.quiet = true) (fun u hu ha => ?_) n s ⟨h, hq⟩
    obtain ⟨hI, hquiet⟩ := hu
    rw [round_quiet u hquiet ha]
    refine ⟨?_, runLine_quiet u hquiet⟩
    obtain ⟨-, hnone⟩ | ⟨l, rest, hp, hstep⟩ := runLine_step u
    · rwa [hnone]
    · exact hline u l rest _ hI ha hp hstep
  exact kept.1

/-- What acceptance sets up and every line keeps holds when a request of an idle block has ended. -/
theorem exec_induction {I : State → Prop} {i : Instr} {w : Word} {s t : State} (hw : encode i = .request w)
    (hready : s.ready) (hexec : exec i s = .next t)
    (haccept : ∀ ls, i.lines = some ls → I (accept w (ls ++ [.endOk]) s))
    (hline : ∀ u l rest v, I u → u.status.active = true → u.ptr = l :: rest → LineStep u l v → I v) :
    I t ∧ t.status.active = false := by
  obtain ⟨hidle, hquiet⟩ := hready
  obtain ⟨ls, hl, hreq⟩ := exec_of_encode_request i w hw
  rw [hreq, request_idle w ls s hidle] at hexec
  cases hexec
  exact ⟨quiet_run_induction hline roundLimit _ hquiet (haccept ls hl), request_ends i w ls s hl⟩

/-- An item of the state that no line of a request's operation writes is as acceptance left it. -/
theorem exec_keeps {α : Type} (g : State → α) {P : Line → Prop} (hpoll : ∀ p q, P (.poll p) → P (.poll q)) {i : Instr}
    {w : Word} {s t : State} (hw : encode i = .request w) (hready : s.ready) (hexec : exec i s = .next t)
    (hlines : ∀ ls, i.lines = some ls → ∀ l ∈ ls ++ [.endOk], P l)
    (hline : ∀ u l v, LineStep u l v → u.latOp = opField w → P l → g v = g u) (a : α)
    (haccept : ∀ ls, g (accept w ls s) = a) : g t = a := by
  have kept := exec_induction (I := fun u => g u = a ∧ u.latOp = opField w ∧ ∀ l ∈ u.ptr, P l) hw hready hexec
    (fun ls hl => ⟨haccept _, rfl, hlines ls hl⟩) (fun u l rest v hu ha hp hstep => by
      obtain ⟨hg, hop, hP⟩ := hu
      have latched : v.latOp = u.latOp := by rw [State.latOp, State.latOp, hstep.latched.1]
      refine ⟨(hline u l v hstep hop (hP l ?_)).trans hg, latched.trans hop, hstep.forall_mem_ptr hpoll hP⟩
      rw [hp]
      exact List.mem_cons_self)
  exact kept.1.1

/-! ### What each line leaves alone -/

section
variable {s t : State} {l : Line}

/-- The line writes CONFIGURED, CFG, CFG_FREQ and the line mode. -/
def Line.configures (l : Line) : Bool := l == .cfgRecord

/-- The line writes LATCH_RELEASED, LINES or the pins. -/
def Line.releases : Line → Bool
  | .pinMode | .markReleased => true
  | _ => false

/-- The line writes RETRY. -/
def Line.countsRetry : Line → Bool
  | .loadRetry | .poll _ => true
  | _ => false

theorem LineStep.configuration (h : LineStep s l t) (hl : l.configures = false) :
    (t.status.configured, t.cfg, t.xferMode) = (s.status.configured, s.cfg, s.xferMode) := by
  cases h with
  | recorded => cases hl
  | raised k info => exact congrArg (·, s.cfg, s.xferMode) (abortRecovery_flags s).1
  | failed =>
    refine congrArg (·, s.cfg, s.xferMode) ?_
    rw [frameFailed_status]
    split <;> rfl
  | _ => rfl

theorem LineStep.release (h : LineStep s l t) (hl : l.releases = false) :
    (t.status.latchReleased, t.lineRole, t.pinCalls) = (s.status.latchReleased, s.lineRole, s.pinCalls) := by
  cases h with
  | pinned | released => cases hl
  | raised k info => exact congrArg (·, s.lineRole, s.pinCalls) (abortRecovery_flags s).2
  | failed =>
    refine congrArg (·, s.lineRole, s.pinCalls) ?_
    rw [frameFailed_status]
    split <;> rfl
  | _ => rfl

theorem LineStep.snap (h : LineStep s l t) (hl : l ≠ .snapStore) : t.snap = s.snap := by
  cases h with
  | stored => exact absurd rfl hl
  | _ => rfl

theorem LineStep.retry (h : LineStep s l t) (hl : l.countsRetry = false) : t.retry = s.retry := by
  cases h with
  | loaded | counted => cases hl
  | _ => rfl

/-- No line touches what the host owns, but for the trace. -/
theorem LineStep.host (h : LineStep s l t) :
    (t.addr, t.freq, t.txbuf, t.params, t.port, t.readLog) = (s.addr, s.freq, s.txbuf, s.params, s.port, s.readLog) := by
  cases h <;> rfl

/-- Only a TransportError or a ConfigurationFailure writes ERR_STATUS (R26). -/
theorem LineStep.errStatus (h : LineStep s l t) :
    t.errStatus = s.errStatus ∨ t.status.active = false ∧ (t.result.code = 0x1#4 ∨ t.result.code = 0x3#4) := by
  cases h with
  | failed => exact .inr ⟨rfl, .inl rfl⟩
  | raised k info _ hst =>
    cases hinfo : info.status with
    | none => exact .inl (by simp [hinfo])
    | some st =>
      obtain rfl | rfl := hst (by simp [hinfo])
      · exact .inr ⟨rfl, .inl rfl⟩
      · exact .inr ⟨rfl, .inr rfl⟩
  | _ => exact .inl rfl

/-- An admitted frame asks for one byte at most (R90). -/
theorem WireFrame.nr_le_one (f : WireFrame) (h : f.admitted = true) : f.nr ≤ 1 := by
  obtain rfl | rfl | rfl | rfl | ⟨v, rfl⟩ := f.eq_of_admitted h <;>
    simp [rdsr1Frame, rdsr2Frame, rdsr3Frame, wrenFrame, wrsr1Frame]

/-- A line writes RXBUF in its first element alone (R35). -/
theorem LineStep.rxbuf (h : LineStep s l t) (j : Nat) (hj : j ≠ 0x80) : t.rxbuf.read j = s.rxbuf.read j := by
  cases h with
  | sent hf hm ha hst =>
    rename_i f
    have length : (s.reply f).rx.length = f.nr := length_busFrame_rx s.params s.latchRole f s.env ha hst
    have short := f.nr_le_one ha
    exact Memory.read_writeBytes_outside s.rxbuf 0x80 j _ (by omega)
  | _ => rfl

end

/-! ### What each operation leaves alone -/

/-- Which lines an operation has (R48, R110 to R232). -/
theorem lines_of_instr (i : Instr) (ls : List Line) (hl : i.lines = some ls) :
    (i.configures = false → ∀ l ∈ ls ++ [.endOk], l.configures = false) ∧
      (i.releases = false → ∀ l ∈ ls ++ [.endOk], l.releases = false) ∧
      (i.snapshots = false → ∀ l ∈ ls ++ [.endOk], l ≠ .snapStore) ∧
      (i.polls = false → ∀ l ∈ ls ++ [.endOk], l.countsRetry = false) := by
  cases i with
  | rdsr1 | rdsr2 | rdsr3 | wren | wrsr1 => cases hl
  | _ =>
    cases hl
    dsimp only [Instr.configures, Instr.releases, Instr.snapshots, Instr.polls]
    decide

/-- Settles O21: each item is kept by every line but those that write it, and the operations not named have none of these. -/
theorem onlyTheNamedOperationsWrite : Obligations.OnlyTheNamedOperationsWrite := by
  intro i w s t hw hready hexec
  have host := exec_keeps (fun u => (u.addr, u.freq, u.txbuf, u.params, u.port, u.readLog)) (P := fun _ => True)
    (fun _ _ => id) hw hready hexec (fun _ _ _ _ => trivial) (fun _ _ _ h _ _ => h.host)
    (s.addr, s.freq, s.txbuf, s.params, s.port, s.readLog) (fun _ => rfl)
  have errStatus := exec_induction
    (I := fun u => u.errStatus = s.errStatus ∨ u.status.active = false ∧ (u.result.code = 0x1#4 ∨ u.result.code = 0x3#4))
    hw hready hexec (fun _ _ => .inl rfl) (fun u l rest v hu ha _ h => by
      obtain hsame | ⟨hidle, -⟩ := hu
      · exact h.errStatus.imp_left (·.trans hsame)
      · rw [hidle] at ha
        cases ha)
  have rxbuf := exec_induction (I := fun u => ∀ j, j ≠ 0x80 → u.rxbuf.read j = s.rxbuf.read j)
    hw hready hexec (fun _ _ _ _ => rfl) (fun u l rest v hu _ _ h j hj => (h.rxbuf j hj).trans (hu j hj))
  simp only [Prod.mk.injEq] at host
  refine ⟨host, fun hi => ?_, fun hi => ?_, fun hi => ?_, fun hi => ?_, fun hi => ?_, fun h1 h3 => ?_, rxbuf.1⟩
  · simpa using exec_keeps (fun u => (u.status.configured, u.cfg, u.xferMode)) (P := fun l => l.configures = false)
      (fun _ _ _ => rfl) hw hready hexec (fun ls hl => (lines_of_instr i ls hl).1 hi) (fun _ _ _ h _ => h.configuration)
      (s.status.configured, s.cfg, s.xferMode) (fun _ => rfl)
  · simpa using exec_keeps (fun u => (u.status.latchReleased, u.lineRole, u.pinCalls)) (P := fun l => l.releases = false)
      (fun _ _ _ => rfl) hw hready hexec (fun ls hl => (lines_of_instr i ls hl).2.1 hi) (fun _ _ _ h _ => h.release)
      (s.status.latchReleased, s.lineRole, s.pinCalls) (fun _ => rfl)
  · have other (ls : List Line) (hl : i.lines = some ls) := lines_of_not_recovers i w ls hw hl hi
    simpa using exec_keeps (fun u => (u.status.orch, u.status.stage)) (P := fun l => ∀ o, l ≠ .setOrch o)
      (fun _ _ _ _ => nofun) hw hready hexec (fun ls hl => (other ls hl).2)
      (fun u l v h hop hl => by
        obtain ⟨ls, hls, -⟩ := exec_of_encode_request i w hw
        obtain ⟨horch, hstage⟩ := h.orch (hop ▸ (other ls hls).1) hl
        rw [horch, hstage]) (s.status.orch, s.status.stage) (fun _ => rfl)
  · exact exec_keeps State.snap (P := fun l => l ≠ .snapStore) (fun _ _ _ => nofun) hw hready hexec
      (fun ls hl => (lines_of_instr i ls hl).2.2.1 hi) (fun _ _ _ h _ => h.snap) _ (fun _ => rfl)
  · exact exec_keeps State.retry (P := fun l => l.countsRetry = false) (fun _ _ => id) hw hready hexec
      (fun ls hl => (lines_of_instr i ls hl).2.2.2 hi) (fun _ _ _ h _ => h.retry) _ (fun _ => rfl)
  · obtain hsame | ⟨-, hcode⟩ := errStatus.1
    · exact hsame
    · exact absurd hcode (not_or.mpr ⟨h1, h3⟩)

/-! ### The codes -/

/-- The codes a line can end its operation with (R261). -/
def lineCodes (p : Params) : Line → List (BitVec 4)
  | .endOk => [0x0#4]
  | .needConfigured | .needUnconfigured | .needUnreleased | .needFresh => [0x5#4]
  | .cfgCheck => [0x3#4]
  | .xferCheck => [0x1#4]
  | .xferFrame | .verifyRead | .snapRead1 | .snapRead2 | .snapRead3 | .sendWren | .sendWrsr1 => [0x1#4, 0x5#4]
  | .poll _ => [0x1#4, 0x2#4, 0x5#4]
  | .verifyLatch => if p.welCheck then [0x4#4] else []
  | .verifyCleared => if p.verifyCheck then [0x6#4] else []
  | _ => []

/-- A line's errors have its codes. -/
theorem code_mem_lineCodes (s : State) (l : Line) (k : ErrKind) (h : k ∈ lineErrors s l) : k.code ∈ lineCodes s.params l := by
  cases l with
  | poll p => cases p <;> simp [lineErrors] at h <;> simp [h, lineCodes, ErrKind.code]
  | verifyLatch | verifyCleared =>
    simp only [lineErrors] at h
    split at h <;> simp_all [lineCodes, ErrKind.code]
  | xferFrame =>
    simp only [lineErrors] at h
    split at h <;> simp_all [lineCodes, ErrKind.code]
  | _ => simp [lineErrors] at h <;> simp [h, lineCodes, ErrKind.code]

/-- A line that ends the operation ends it with one of its codes. -/
theorem LineStep.code {s t : State} {l : Line} (h : LineStep s l t) (ha : s.status.active = true)
    (ht : t.status.active = false) : t.result.code ∈ lineCodes s.params l := by
  cases h with
  | raised k info hk => exact code_mem_lineCodes s l k hk
  | refused | finished => simp [lineCodes]
  | failed hf =>
    cases l with
    | poll p => simp [lineCodes]
    | xferFrame | verifyRead | snapRead1 | snapRead2 | snapRead3 | sendWren | sendWrsr1 => simp [lineCodes]
    | _ => simp [lineFrame] at hf
  | _ => exact absurd (ha.symm.trans ht) (by decide)

/-- A code that R262's table allows the operation, and code 4 or 6 only where its check is on. -/
structure CodeAllowed (p : Params) (i : Instr) (c : BitVec 4) : Prop where
  listed : c ∈ i.codes
  latch : c = 0x4#4 → p.welCheck = true
  verify : c = 0x6#4 → p.verifyCheck = true

/-- The codes of an operation's lines are those of its row, and the lines with a check raise its code only while it is on (R262). -/
theorem codeAllowed_of_lines (p : Params) (i : Instr) (ls : List Line) (hl : i.lines = some ls) :
    ∀ l ∈ ls ++ [.endOk], ∀ c ∈ lineCodes p l, CodeAllowed p i c := by
  have checked : ∀ l, ∀ c ∈ lineCodes p l, (c = 0x4#4 → p.welCheck = true) ∧ (c = 0x6#4 → p.verifyCheck = true) := by
    intro l c hc
    cases l with
    | verifyLatch | verifyCleared =>
      simp only [lineCodes] at hc
      split at hc <;> simp_all
    | _ => simp [lineCodes] at hc <;> rcases hc with rfl | rfl | rfl <;> exact ⟨nofun, nofun⟩
  have listed : ∀ l ∈ ls ++ [.endOk], ∀ c ∈ lineCodes p l, c ∈ i.codes := by
    cases i with
    | rdsr1 | rdsr2 | rdsr3 | wren | wrsr1 => cases hl
    | _ =>
      cases hl
      dsimp only [Instr.codes, lineCodes]
      cases p.welCheck <;> cases p.verifyCheck <;> decide
  exact fun l hmem c hc => ⟨listed l hmem c hc, (checked l c hc).1, (checked l c hc).2⟩

/-- Settles O58: the line that ends the operation ends it with one of its codes. -/
theorem resultCodesOfEachOperation : Obligations.ResultCodesOfEachOperation := by
  intro i w s t hw hready hexec
  have ended := exec_induction
    (I := fun u => u.params = s.params ∧ (∀ l ∈ u.ptr, ∀ c ∈ lineCodes s.params l, CodeAllowed s.params i c) ∧
      (u.status.active = false → CodeAllowed s.params i u.result.code))
    hw hready hexec (fun ls hl => ⟨rfl, codeAllowed_of_lines s.params i ls hl, nofun⟩) (fun u l rest v hu ha hp h => by
      obtain ⟨hparams, hcodes, -⟩ := hu
      refine ⟨h.latched.2.1.trans hparams, h.forall_mem_ptr (fun _ _ => id) hcodes, fun hidle => ?_⟩
      have code := h.code ha hidle
      rw [hparams] at code
      exact hcodes l (by rw [hp]; exact List.mem_cons_self) _ code)
  obtain ⟨⟨-, -, allowed⟩, hidle⟩ := ended
  exact ⟨(allowed hidle).listed, (allowed hidle).latch, (allowed hidle).verify⟩

end Sys2Proof.Machine
end

section
/-! The events of a request (SPEC 30_encoding.md, R89; 47_orchestrator.md, R244; 60_exceptions.md, R263): every line adds one event
at most, a wait at most 10000 reads and 9999 waits, and the operation ends with its only `Done`. -/
namespace Sys2Proof.Machine

open Sys2Proof.Config

/-! ### The events of one line -/

/-- Events that neither end an operation nor drop a request. -/
def inner (evs : List Event) : Prop := ∀ e ∈ evs, e.isDone = false ∧ e.isDrop = false

/-- The events one line adds, `Done` apart: a frame, a `Cfg`, a `Pin` or a wait. -/
def emitted : Line → Nat
  | .poll .read | .poll .wait | .verifyRead | .snapRead1 | .snapRead2 | .snapRead3 | .sendWren | .sendWrsr1 | .xferFrame
  | .cfgEmit | .pinMode => 1
  | _ => 0

theorem inner_frame (f : WireFrame) (r : Reply) : inner [frameEvent f r] := by
  simp [inner, frameEvent, Event.isDone, Event.isDrop]

/-- A line that sends a frame adds one event. -/
theorem emitted_of_lineFrame {s : State} {l : Line} {f : WireFrame} (h : lineFrame s l = some f) : emitted l = 1 := by
  cases l with
  | poll p =>
    cases p with
    | read | wait => rfl
    | ready | count | exhausted => cases h
  | xferFrame | verifyRead | snapRead1 | snapRead2 | snapRead3 | sendWren | sendWrsr1 => rfl
  | _ => simp [lineFrame] at h

/-- What a line adds to the trace: at most its one event, and `Done` when it ends the operation (R89, R263). -/
theorem LineStep.events {s t : State} {l : Line} (h : LineStep s l t) :
    ∃ evs, inner evs ∧ evs.length ≤ emitted l ∧
      (t.status.active = s.status.active ∧ t.trace = s.trace ++ evs ∨
        t.status.active = false ∧ t.ptr = [] ∧ t.result.op = s.latOp ∧
          t.trace = s.trace ++ evs ++ [.done s.latOp t.result.code]) := by
  have none_added : inner [] := by simp [inner]
  cases h with
  | passed | answered | operands | recorded | loaded | counted | stored | released | ordered =>
    exact ⟨[], none_added, Nat.zero_le _, .inl ⟨rfl, (List.append_nil _).symm⟩⟩
  | cfgEmitted => exact ⟨[_], by simp [inner, Event.isDone, Event.isDrop], Nat.le_refl 1, .inl ⟨rfl, rfl⟩⟩
  | waited => exact ⟨[.wait pollIntervalMs], by simp [inner, Event.isDone, Event.isDrop], Nat.le_refl 1, .inl ⟨rfl, rfl⟩⟩
  | pinned => exact ⟨[_], by simp [inner, Event.isDone, Event.isDrop], Nat.le_refl 1, .inl ⟨rfl, rfl⟩⟩
  | sent hf => exact ⟨_, inner_frame _ _, (emitted_of_lineFrame hf).ge, .inl ⟨rfl, rfl⟩⟩
  | failed hf => exact ⟨_, inner_frame _ _, (emitted_of_lineFrame hf).ge, .inr ⟨rfl, rfl, rfl, rfl⟩⟩
  | raised | refused | finished =>
    exact ⟨[], none_added, Nat.zero_le _, .inr ⟨rfl, rfl, rfl, by rw [List.append_nil]; rfl⟩⟩

/-- No line touches OVR (R88). -/
theorem LineStep.ovr {s t : State} {l : Line} (h : LineStep s l t) : t.status.ovr = s.status.ovr := by
  have aborted (st : Status) (p : Prop) [Decidable p] : (if p then st.setOrch .aborted else st).ovr = st.ovr := by
    split <;> rfl
  cases h with
  | raised | failed => exact aborted _ _
  | _ => rfl

/-! ### The events left -/

/-- The events of a line that has not begun; a wait has 10000 reads and 9999 waits (R152). -/
def lineEvents : Line → Nat
  | .poll _ => 19999
  | l => emitted l

def linesEvents (ls : List Line) : Nat := (ls.map lineEvents).sum

/-- The events left of the poll loop at a line, with RETRY at r. -/
def pollEvents (r : BitVec 14) : PollLine → Nat
  | .read => 2 * (r - 1#14).toNat + 1
  | .ready => 2 * (r - 1#14).toNat
  | .count => 2 * (r - 1#14).toNat
  | .exhausted => 2 * r.toNat
  | .wait => 2 * (r - 1#14).toNat + 2

/-- The events left of a running operation. -/
def State.eventsLeft (s : State) : Nat :=
  match s.ptr with
  | [] => 0
  | .poll p :: rest => pollEvents s.retry p + linesEvents rest
  | l :: rest => emitted l + linesEvents rest

/-- Every poll loop is entered at its first line, from the line that loads RETRY (R151). -/
def pollsLoaded : List Line → Bool
  | [] => true
  | .loadRetry :: .poll .read :: rest => pollsLoaded rest
  | .poll _ :: _ => false
  | _ :: rest => pollsLoaded rest

/-- Every poll loop that has not begun is entered so. -/
def State.loaded (s : State) : Bool :=
  match s.ptr with
  | .poll _ :: rest => pollsLoaded rest
  | ls => pollsLoaded ls

theorem linesEvents_cons (l : Line) (ls : List Line) : linesEvents (l :: ls) = lineEvents l + linesEvents ls := by
  simp [linesEvents]

theorem eventsLeft_poll {s : State} {p : PollLine} {rest : List Line} (hp : s.ptr = .poll p :: rest) :
    s.eventsLeft = pollEvents s.retry p + linesEvents rest := by
  simp [State.eventsLeft, hp]

theorem eventsLeft_line {s : State} {l : Line} {rest : List Line} (hp : s.ptr = l :: rest) (hl : ∀ p, l ≠ .poll p) :
    s.eventsLeft = emitted l + linesEvents rest := by
  cases l with
  | poll p => exact absurd rfl (hl p)
  | _ => simp [State.eventsLeft, hp]

/-- Lines none of which has begun. -/
theorem eventsLeft_of_pollsLoaded {s : State} {ls : List Line} (hp : s.ptr = ls) (hl : pollsLoaded ls = true) :
    s.eventsLeft = linesEvents ls ∧ s.loaded = true := by
  cases ls with
  | nil => simp [State.eventsLeft, State.loaded, hp, linesEvents, pollsLoaded]
  | cons l rest =>
    cases l with
    | poll p => simp [pollsLoaded] at hl
    | _ =>
      rw [eventsLeft_line hp nofun, linesEvents_cons]
      exact ⟨rfl, by simpa [State.loaded, hp] using hl⟩

/-- A line outside the poll loop leaves the lines after it, and loads RETRY before a poll loop. -/
theorem pollsLoaded_tail (l : Line) (rest : List Line) (hl : ∀ p, l ≠ .poll p) (h : pollsLoaded (l :: rest) = true) :
    pollsLoaded rest = true ∨ l = .loadRetry ∧ ∃ ms, rest = .poll .read :: ms ∧ pollsLoaded ms = true := by
  cases l with
  | poll p => exact absurd rfl (hl p)
  | loadRetry =>
    unfold pollsLoaded at h
    split at h <;> simp_all
  | _ => exact .inl h

/-- The next line's own event is among those left. -/
theorem emitted_le_eventsLeft {s : State} {l : Line} {rest : List Line} (hp : s.ptr = l :: rest) :
    emitted l ≤ s.eventsLeft := by
  cases l with
  | poll p =>
    rw [eventsLeft_poll hp]
    cases p <;> simp only [emitted, pollEvents] <;> omega
  | _ =>
    rw [eventsLeft_line hp nofun]
    exact Nat.le_add_right _ _

/-- A line outside the poll loop that goes on uses up its own event alone; before a poll loop it has loaded RETRY. -/
theorem LineStep.line_eventsLeft {s t : State} {l : Line} {rest : List Line} (h : LineStep s l t) (hp : s.ptr = l :: rest)
    (hl : ∀ p, l ≠ .poll p) (hs : s.loaded = true) (ht : t.ptr = rest) :
    t.loaded = true ∧ emitted l + t.eventsLeft ≤ s.eventsLeft := by
  have all : pollsLoaded (l :: rest) = true := by
    cases l with
    | poll p => exact absurd rfl (hl p)
    | _ => simpa [State.loaded, hp] using hs
  rw [eventsLeft_line hp hl]
  obtain hrest | ⟨rfl, ms, rfl, hms⟩ := pollsLoaded_tail l rest hl all
  · obtain ⟨left, loaded⟩ := eventsLeft_of_pollsLoaded ht hrest
    exact ⟨loaded, by omega⟩
  · have budget : t.retry = retryCeiling := by
      cases h with
      | loaded => rfl
      | passed hpass => exact hpass.elim
      | operands hmem => simp at hmem
      | raised => cases ht
      | sent hf => simp [lineFrame] at hf
      | failed hf => cases ht
    refine ⟨by simpa [State.loaded, ht] using hms, ?_⟩
    rw [eventsLeft_poll ht, budget, linesEvents_cons]
    exact Nat.le_of_eq rfl

/-- In the poll loop a read and a wait use up one event each, and a busy answer one of the reads that are left (R151). -/
theorem LineStep.poll_eventsLeft {s t : State} {p : PollLine} {rest : List Line} (h : LineStep s (.poll p) t)
    (hp : s.ptr = .poll p :: rest) (hs : s.loaded = true) (ht : t.status.active = s.status.active)
    (ha : s.status.active = true) : t.loaded = true ∧ emitted (.poll p) + t.eventsLeft ≤ s.eventsLeft := by
  have later : pollsLoaded rest = true := by simpa [State.loaded, hp] using hs
  have goes_to {q : PollLine} (hq : t.ptr = .poll q :: rest)
      (hle : emitted (.poll p) + pollEvents t.retry q ≤ pollEvents s.retry p) :
      t.loaded = true ∧ emitted (.poll p) + t.eventsLeft ≤ s.eventsLeft := by
    refine ⟨by simpa [State.loaded, hq] using later, ?_⟩
    rw [eventsLeft_poll hp, eventsLeft_poll hq]
    omega
  cases h with
  | raised | failed => exact absurd (ht.trans ha) (by simp)
  | operands hl => simp at hl
  | answered =>
    obtain ⟨left, loaded⟩ := eventsLeft_of_pollsLoaded (s := s.leaveLoop) (by rw [leaveLoop_ptr, hp, List.tail_cons]) later
    refine ⟨loaded, ?_⟩
    rw [eventsLeft_poll hp, left]
    simp only [emitted]
    omega
  | counted =>
    refine goes_to (q := .exhausted) (by simp [linePollCount, hp, nextLines]) ?_
    show emitted _ + pollEvents (s.retry - 1#14) .exhausted ≤ _
    simp only [emitted, pollEvents]
    omega
  | waited =>
    refine goes_to (q := .read) (by simp [linePollWait, hp, nextLines]) ?_
    show emitted _ + pollEvents s.retry .read ≤ _
    simp only [emitted, pollEvents]
    omega
  | passed hpass =>
    cases p with
    | read | count | wait => exact hpass.elim
    | ready => exact goes_to (q := .count) (by simp [hp, nextLines]) (by simp [emitted, pollEvents])
    | exhausted =>
      refine goes_to (q := .wait) (by simp [hp, nextLines]) ?_
      have budget : (s.retry - 1#14).toNat + 1 = s.retry.toNat := by
        have nonzero : s.retry ≠ 0#14 := hpass
        bv_omega
      show emitted _ + pollEvents s.retry .wait ≤ _
      simp only [emitted, pollEvents]
      omega
  | sent hf =>
    cases p with
    | ready | count | exhausted | wait => cases hf
    | read =>
      refine goes_to (q := .ready) (by simp [hp, nextLines]) ?_
      show emitted _ + pollEvents s.retry .ready ≤ _
      simp only [emitted, pollEvents]
      omega

/-- A line that goes on uses up its own events. -/
theorem LineStep.eventsLeft {s t : State} {l : Line} {rest : List Line} (h : LineStep s l t) (hp : s.ptr = l :: rest)
    (hs : s.loaded = true) (ha : s.status.active = true) (ht : t.status.active = s.status.active) :
    t.loaded = true ∧ emitted l + t.eventsLeft ≤ s.eventsLeft := by
  by_cases hl : ∃ p, l = .poll p
  · obtain ⟨p, rfl⟩ := hl
    exact h.poll_eventsLeft hp hs ht ha
  · have outside : ∀ p, l ≠ .poll p := fun p hlp => hl ⟨p, hlp⟩
    obtain ⟨-, ⟨hptr, -⟩ | ⟨hready, -⟩⟩ | ⟨hidle, -⟩ := h.control
    · exact h.line_eventsLeft hp outside hs (by rw [hptr, hp, nextLines_of_not_poll l rest outside])
    · exact absurd hready (outside .ready)
    · rw [hidle, ha] at ht
      cases ht

/-! ### The events of a request -/

/-- The operations' waits are entered where RETRY is loaded, and RUN_RECOVERY, with seven waits and ten events besides, has the most
(R151, R244). -/
theorem linesEvents_lines_le (i : Instr) (ls : List Line) (h : i.lines = some ls) :
    pollsLoaded (ls ++ [.endOk]) = true ∧ linesEvents (ls ++ [.endOk]) ≤ 14 * 10000 + 3 := by
  cases i with
  | rdsr1 | rdsr2 | rdsr3 | wren | wrsr1 => cases h
  | _ =>
    cases h
    decide

/-- While a request runs: the events it has added, and how many it may still add to stay within n. -/
structure RunningWithin (s : State) (n : Nat) (u : State) : Prop where
  loaded : u.loaded = true
  events : ∃ evs, inner evs ∧ u.trace = s.trace ++ evs ∧ evs.length + u.eventsLeft ≤ n

/-- When a request has ended: its one `Done` comes last, after at most n other events. -/
structure EndedWithin (s : State) (w : Word) (n : Nat) (u : State) : Prop where
  ptr : u.ptr = []
  op : u.result.op = opField w
  events : ∃ evs, inner evs ∧ u.trace = s.trace ++ evs ++ [.done (opField w) u.result.code] ∧ evs.length ≤ n

/-- A line goes on within the bound, or ends the request within it. -/
theorem LineStep.within {s u v : State} {w : Word} {n : Nat} {l : Line} {rest : List Line} (h : LineStep u l v)
    (hu : RunningWithin s n u) (hop : u.latOp = opField w) (ha : u.status.active = true) (hp : u.ptr = l :: rest) :
    (v.status.active = true ∧ RunningWithin s n v) ∨ (v.status.active = false ∧ EndedWithin s w n v) := by
  obtain ⟨hloaded, evs, hinner, htrace, hle⟩ := hu
  obtain ⟨new, hnew, hlen, hcase⟩ := h.events
  have together : inner (evs ++ new) := fun e he => (List.mem_append.mp he).elim (hinner e) (hnew e)
  obtain ⟨hactive, hv⟩ | ⟨hidle, hptr, hres, hv⟩ := hcase
  · obtain ⟨loaded, left⟩ := h.eventsLeft hp hloaded ha hactive
    refine .inl ⟨hactive.trans ha, loaded, evs ++ new, together, by rw [hv, htrace, List.append_assoc], ?_⟩
    rw [List.length_append]
    omega
  · have own := emitted_le_eventsLeft hp
    refine .inr ⟨hidle, hptr, hres.trans hop, evs ++ new, together, by rw [hv, htrace, hop, List.append_assoc s.trace], ?_⟩
    rw [List.length_append]
    omega

/-- Settles O16: the lines keep within the bound of their operation, and the line that ends it adds the one `Done`. -/
theorem everyRequestEndsOnce : Obligations.EveryRequestEndsOnce := by
  intro i w s hw hready
  obtain ⟨ls, hls, hreq⟩ := exec_of_encode_request i w hw
  have ended := exec_induction
    (I := fun u => u.latOp = opField w ∧ u.status.ovr = false ∧
      (u.status.active = true ∧ RunningWithin s (14 * 10000 + 3) u ∨
        u.status.active = false ∧ EndedWithin s w (14 * 10000 + 3) u))
    hw hready (hreq s)
    (fun ls hl => by
      obtain ⟨loaded, few⟩ := linesEvents_lines_le i ls hl
      obtain ⟨left, hloaded⟩ := eventsLeft_of_pollsLoaded (s := accept w (ls ++ [.endOk]) s)
        (accept_ptr _ _ _) loaded
      refine ⟨rfl, rfl, .inl ⟨rfl, hloaded, [], by simp [inner], (List.append_nil _).symm, ?_⟩⟩
      rw [left]
      simpa using few)
    (fun u l rest v hu ha hp h => by
      obtain ⟨hop, hovr, ⟨-, hrunning⟩ | ⟨hidle, -⟩⟩ := hu
      · have latched : v.latOp = u.latOp := by rw [State.latOp, State.latOp, h.latched.1]
        exact ⟨latched.trans hop, h.ovr.trans hovr, h.within hrunning hop ha hp⟩
      · rw [hidle] at ha
        cases ha)
  obtain ⟨⟨-, hovr, ⟨hactive, -⟩ | ⟨hidle, hptr, hop, evs, hinner, htrace, hlen⟩⟩, hend⟩ := ended
  · rw [hactive] at hend
    cases hend
  · exact ⟨_, evs, hreq s, hidle, hovr, hptr, hop, htrace, hlen, hinner⟩

end Sys2Proof.Machine
end

section
/-! The endings of RUN_RECOVERY (SPEC 47_orchestrator.md, R235): the triples of ORCH, CODE and STAGE that its lines can end with,
computed along the list of its lines. -/
namespace Sys2Proof.Machine

open Sys2Proof.Config

/-! ### The endings of a list of lines -/

/-- What the endings of a RUN_RECOVERY depend on. -/
structure Progress where
  configured : Bool
  released : Bool
  orch : BitVec 3
  stage : BitVec 3

/-- How far a state has come. -/
def State.progress (s : State) : Progress :=
  ⟨s.status.configured, s.status.latchReleased, s.status.orch, s.status.stage⟩

/-- How far a line that goes on has come. -/
def Progress.after (g : Progress) : Line → Progress
  | .cfgRecord => { g with configured := true }
  | .markReleased => { g with released := true }
  | .setOrch o => { g with orch := o.value, stage := if o.terminal then g.stage else o.value }
  | _ => g

/-- The endings (ORCH, CODE, STAGE) of a line inside RUN_RECOVERY (R234, R261). -/
def Progress.lineEndings (g : Progress) : Line → List (BitVec 3 × BitVec 4 × BitVec 3)
  | .needConfigured => if g.configured then [] else [(7#3, 0x5#4, g.stage)]
  | .needUnconfigured => if g.configured then [(7#3, 0x5#4, g.stage)] else []
  | .needUnreleased => if g.released then [(7#3, 0x5#4, g.stage)] else []
  | .needFresh => if g.orch = 0#3 ∧ g.configured = false then [] else [(g.orch, 0x5#4, g.stage)]
  | .cfgCheck => [(7#3, 0x3#4, g.stage)]
  | .xferCheck => [(7#3, 0x1#4, g.stage)]
  | .poll _ => (7#3, 0x1#4, g.stage) :: (7#3, 0x2#4, g.stage) :: if g.configured then [] else [(7#3, 0x5#4, g.stage)]
  | .verifyRead | .snapRead1 | .snapRead2 | .snapRead3 | .sendWren | .sendWrsr1 | .xferFrame =>
    (7#3, 0x1#4, g.stage) :: if g.configured then [] else [(7#3, 0x5#4, g.stage)]
  | .verifyLatch => [(7#3, 0x4#4, g.stage)]
  | .verifyCleared => [(7#3, 0x6#4, g.stage)]
  | .endOk => [(g.orch, 0x0#4, g.stage)]
  | _ => []

/-- The endings of lines that run one after another. -/
def Progress.endings : Progress → List Line → List (BitVec 3 × BitVec 4 × BitVec 3)
  | _, [] => []
  | g, l :: rest => g.lineEndings l ++ Progress.endings (g.after l) rest

/-- The poll loop's lines have the endings of one another. -/
theorem endings_nextLines_subset (g : Progress) (l : Line) (rest : List Line) :
    (g.after l).endings (nextLines (l :: rest)) ⊆ g.endings (l :: rest) := by
  cases l with
  | poll p => cases p <;> exact List.Subset.refl _
  | _ => exact List.subset_append_right _ _

/-! ### The endings of a state -/

/-- (ORCH, CODE, STAGE). -/
def State.ending (s : State) : BitVec 3 × BitVec 4 × BitVec 3 := (s.status.orch, s.result.code, s.status.stage)

theorem ending_raise (k : ErrKind) (info : ErrInfo) (s : State) (hop : s.latOp = 0x8#4) :
    (raise k info s).ending = (7#3, k.code, s.status.stage) := by
  rw [raise_recovery k info s hop]
  rfl

/-- A line's errors have the endings listed for it. -/
theorem error_mem_lineEndings (s : State) (l : Line) (k : ErrKind)
    (hmode : s.status.configured = true ↔ s.xferMode = .single) (h : k ∈ lineErrors s l) :
    (7#3, k.code, s.status.stage) ∈ s.progress.lineEndings l := by
  have single : (if s.xferMode = .single then [] else [ErrKind.requestRejected]) =
      if s.status.configured then [] else [ErrKind.requestRejected] := by
    simp only [hmode]
  cases l with
  | poll p =>
    cases p <;> simp only [lineErrors, single] at h <;> simp_all [State.progress, Progress.lineEndings, ErrKind.code]
  | needConfigured | needUnconfigured | needUnreleased | verifyLatch | verifyCleared =>
    simp only [lineErrors] at h
    split at h <;> simp_all [State.progress, Progress.lineEndings, ErrKind.code]
  | xferFrame | verifyRead | snapRead1 | snapRead2 | snapRead3 | sendWren | sendWrsr1 =>
    simp only [lineErrors, ← hmode] at h
    split at h <;> simp_all [State.progress, Progress.lineEndings, ErrKind.code]
  | _ => simp [lineErrors] at h <;> simp [h, State.progress, Progress.lineEndings, ErrKind.code]

/-- Inside RUN_RECOVERY a line ends the operation with one of its endings, or goes on. -/
theorem LineStep.ending {s t : State} {l : Line} (h : LineStep s l t) (hop : s.latOp = 0x8#4)
    (hmode : s.status.configured = true ↔ s.xferMode = .single) (ha : s.status.active = true) :
    (t.status.active = false ∧ t.ending ∈ s.progress.lineEndings l) ∨
      (t.status.active = true ∧ t.progress = s.progress.after l) := by
  cases h with
  | raised k info hk =>
    refine .inl ⟨rfl, ?_⟩
    rw [ending_raise k info s hop]
    exact error_mem_lineEndings s l k hmode hk
  | failed hf =>
    refine .inl ⟨rfl, ?_⟩
    rw [frameFailed, ending_raise _ _ _ (by exact hop)]
    cases l with
    | poll p => exact List.mem_cons_self
    | xferFrame | verifyRead | snapRead1 | snapRead2 | snapRead3 | sendWren | sendWrsr1 => exact List.mem_cons_self
    | _ => simp [lineFrame] at hf
  | refused hstale =>
    refine .inl ⟨rfl, ?_⟩
    have stale : ¬(s.status.orch = 0#3 ∧ s.status.configured = false) := by
      rintro ⟨ho, hc⟩
      simp [ho, hc] at hstale
    simp [Progress.lineEndings, State.progress, stale, State.ending]
  | finished => exact .inl ⟨rfl, List.mem_cons_self⟩
  | passed hpass =>
    refine .inr ⟨ha, ?_⟩
    cases l with
    | cfgRecord | markReleased | setOrch => exact hpass.elim
    | _ => rfl
  | sent hf =>
    refine .inr ⟨ha, ?_⟩
    cases l with
    | cfgRecord | markReleased | setOrch => simp [lineFrame] at hf
    | _ => rfl
  | operands hl =>
    refine .inr ⟨ha, ?_⟩
    cases l with
    | cfgRecord | markReleased | setOrch => simp at hl
    | _ => rfl
  | _ => exact .inr ⟨ha, rfl⟩

/-- The pointer after a line that goes on. -/
theorem LineStep.endings_subset {s t : State} {l : Line} {rest : List Line} (h : LineStep s l t) (hp : s.ptr = l :: rest)
    (hg : t.progress = s.progress.after l) (ht : t.status.active = true) :
    t.progress.endings t.ptr ⊆ s.progress.endings (l :: rest) := by
  obtain ⟨-, ⟨hptr, -⟩ | ⟨rfl, hptr⟩⟩ | ⟨hidle, -⟩ := h.control
  · rw [hptr, hp, hg]
    exact endings_nextLines_subset _ l rest
  · rw [hptr, hp, hg, List.tail_cons]
    exact List.subset_append_right _ _
  · rw [hidle] at ht
    cases ht

/-! ### RUN_RECOVERY -/

/-- R235's table. -/
def recoveryEndings : List (BitVec 3 × BitVec 4 × BitVec 3) :=
  [(7#3, 0x3#4, 0#3), (7#3, 0x2#4, 1#3), (7#3, 0x1#4, 1#3), (7#3, 0x2#4, 2#3), (7#3, 0x1#4, 2#3),
    (7#3, 0x4#4, 2#3), (7#3, 0x2#4, 3#3), (7#3, 0x1#4, 3#3), (7#3, 0x4#4, 3#3), (7#3, 0x1#4, 4#3),
    (7#3, 0x6#4, 4#3), (5#3, 0x0#4, 4#3)]

/-- From the fresh state RUN_RECOVERY's lines have the endings of R235's table. -/
theorem endings_runRecoveryLines :
    Progress.endings ⟨false, false, 0#3, 0#3⟩ (runRecoveryLines ++ [.endOk]) ⊆ recoveryEndings := by
  decide

/-- Settles O57: the fresh state that meets the invariant is at the start of the table, and each line keeps to it. -/
theorem runRecoveryEndings : Obligations.RunRecoveryEndings := by
  intro f s t hinv hready horch hconfigured hexec
  have fresh : s.progress = ⟨false, false, 0#3, 0#3⟩ := by
    have released : s.status.latchReleased = false := by
      by_contra hne
      have h := hinv.releasedOnlyConfigured (by simpa using hne)
      simp [hconfigured] at h
    simp [State.progress, hconfigured, released, horch, hinv.freshStage horch]
  have single (u : State) (hu : u.Inv) : u.status.configured = true ↔ u.xferMode = .single := hu.configuredIsSingle
  have ended := exec_induction
    (I := fun u => u.Inv ∧ u.latOp = 0x8#4 ∧ (u.status.active = true → u.progress.endings u.ptr ⊆ recoveryEndings) ∧
      (u.status.active = false → u.ending ∈ recoveryEndings))
    (i := .runRecovery f) rfl hready hexec
    (fun ls hl => by
      cases hl
      obtain ⟨htx, hrx, -⟩ := hinv.memoriesWf
      refine ⟨?_, opField_requestWord 0x8#4 f, fun _ => ?_, nofun⟩
      · exact hinv.of_fields rfl rfl rfl rfl rfl rfl rfl hinv.codeLegal ⟨htx, hrx, htx⟩ nofun
          (linesConfigured_lines _ (.runRecovery f) _ rfl)
      · have start : (accept (requestWord 0x8#4 f) (runRecoveryLines ++ [.endOk]) s).progress = s.progress := rfl
        rw [start, fresh]
        exact endings_runRecoveryLines)
    (fun u l rest v hu ha hp h => by
      obtain ⟨huinv, hop, hlisted, -⟩ := hu
      have listed := hlisted ha
      rw [hp] at listed
      have latched : v.latOp = u.latOp := by rw [State.latOp, State.latOp, h.latched.1]
      refine ⟨h.inv huinv ha hp, latched.trans hop, fun hactive => ?_, fun hidle => ?_⟩
      · obtain ⟨hidle, -⟩ | ⟨-, hg⟩ := h.ending hop (single u huinv) ha
        · rw [hidle] at hactive
          cases hactive
        · exact List.Subset.trans (h.endings_subset hp hg hactive) listed
      · obtain ⟨-, hmem⟩ | ⟨hactive, -⟩ := h.ending hop (single u huinv) ha
        · exact listed (List.mem_append_left _ hmem)
        · rw [hidle] at hactive
          cases hactive)
  obtain ⟨⟨-, -, -, hend⟩, hidle⟩ := ended
  exact hend hidle

end Sys2Proof.Machine
end

section
/-! The order of a sequencer's frames (SPEC 43_write_enable.md, R167; 46_protection_reset.md, R216 and R217; 70_reset_and_hazards.md,
R306): what stands before a WREN and before a WRSR1, in every environment. -/
namespace Sys2Proof.Machine

open Sys2Proof.Config

/-! ### Frames in the trace -/

/-- No event is a frame with the opcode. -/
def free (opc : Byte) (evs : List Event) : Prop := ∀ e ∈ evs, e.isFrameOf opc = false

theorem free_append {opc : Byte} {evs new : List Event} (h : free opc evs) (g : free opc new) : free opc (evs ++ new) :=
  fun e he => (List.mem_append.mp he).elim (h e) (g e)

/-- The events a line adds are frames with the opcode of the frame it sends, if they are frames. -/
theorem LineStep.newFrames {s t : State} {l : Line} (h : LineStep s l t) :
    ∃ new, t.trace = s.trace ++ new ∧ ∀ opc, (∀ f, lineFrame s l = some f → f.opc ≠ opc) → free opc new := by
  have silent : ∀ opc, (∀ f, lineFrame s l = some f → f.opc ≠ opc) → free opc [] := by simp [free]
  cases h with
  | passed | answered | operands | recorded | loaded | counted | stored | released | ordered =>
    exact ⟨[], (List.append_nil _).symm, silent⟩
  | cfgEmitted | waited | pinned => exact ⟨[_], rfl, fun _ _ => by simp [free, Event.isFrameOf]⟩
  | raised | refused | finished => exact ⟨[_], rfl, fun _ _ => by simp [free, Event.isFrameOf]⟩
  | sent hf => exact ⟨[_], rfl, fun opc ho => by simp [free, frameEvent, Event.isFrameOf, ho _ hf]⟩
  | failed hf =>
    exact ⟨[_, _], (List.append_assoc _ _ _), fun opc ho => by simp [free, frameEvent, Event.isFrameOf, ho _ hf]⟩

/-- A line of a sequencer other than the one that sends a WREN sends none. -/
theorem wren_of_lineFrame {s : State} {l : Line} (hl : l ≠ .sendWren) (hx : l ≠ .xferFrame) (f : WireFrame)
    (h : lineFrame s l = some f) : f.opc ≠ 0x06#8 := by
  cases l with
  | sendWren => exact absurd rfl hl
  | xferFrame => exact absurd rfl hx
  | poll p =>
    cases p with
    | read =>
      simp [lineFrame] at h
      subst h
      decide
    | _ => simp [lineFrame] at h
  | sendWrsr1 | verifyRead | snapRead1 | snapRead2 | snapRead3 =>
    simp [lineFrame] at h
    subst h
    decide
  | _ => simp [lineFrame] at h

/-- A line of a sequencer other than the one that sends a WRSR1 sends none. -/
theorem wrsr1_of_lineFrame {s : State} {l : Line} (hl : l ≠ .sendWrsr1) (hx : l ≠ .xferFrame) (f : WireFrame)
    (h : lineFrame s l = some f) : f.opc ≠ 0x01#8 := by
  cases l with
  | sendWrsr1 => exact absurd rfl hl
  | xferFrame => exact absurd rfl hx
  | poll p =>
    cases p with
    | read =>
      simp [lineFrame] at h
      subst h
      decide
    | _ => simp [lineFrame] at h
  | sendWren | verifyRead | snapRead1 | snapRead2 | snapRead3 =>
    simp [lineFrame] at h
    subst h
    decide
  | _ => simp [lineFrame] at h

/-- A successful RDSR1 brings one byte, which is its event's (R112, R118). -/
theorem rdsr1_reply (s : State) (hst : (s.reply rdsr1Frame).st = 0#32) :
    ∃ b, (s.reply rdsr1Frame).rx = [b] ∧ frameEvent rdsr1Frame (s.reply rdsr1Frame) = readEvent 0x05#8 b := by
  obtain ⟨b, hb⟩ := List.length_eq_one_iff.mp (length_busFrame_rx s.params s.latchRole rdsr1Frame s.env rfl hst)
  have hb' : (s.reply rdsr1Frame).rx = [b] := hb
  refine ⟨b, hb', ?_⟩
  rw [frameEvent, hst, hb', if_pos rfl]
  rfl

/-- A frame that reads nothing and succeeds has an empty answer (R112). -/
theorem write_reply (s : State) (f : WireFrame) (ha : f.admitted = true) (hn : f.nr = 0)
    (hst : (s.reply f).st = 0#32) : frameEvent f (s.reply f) = .frame f.opc f.addr f.tx 0 0#32 [] := by
  have empty : (s.reply f).rx = [] :=
    List.length_eq_zero_iff.mp ((length_busFrame_rx s.params s.latchRole f s.env ha hst).trans hn)
  simp [frameEvent, hst, empty, hn]

/-! ### WREN comes after a read that shows BUSY clear -/

/-- The last event is a status read that shows BUSY clear. -/
def endsReady (evs : List Event) : Prop := ∃ early r, evs = early ++ [r] ∧ r.readyRead = true

/-- Every WREN among the events comes directly after such a read (R167). -/
def wrensReady (evs : List Event) : Prop :=
  ∀ before e after, evs = before ++ e :: after → e.isFrameOf 0x06#8 = true → endsReady before

theorem wrensReady_append {evs new : List Event} (h : wrensReady evs) (hnew : free 0x06#8 new) : wrensReady (evs ++ new) := by
  intro before e after heq he
  obtain ⟨mid, rfl, hmid⟩ | ⟨mid, rfl, hmid⟩ := List.append_eq_append_iff.mp heq
  · have member : e ∈ new := by
      rw [hmid]
      exact List.mem_append_right _ List.mem_cons_self
    exact absurd he (by simp [hnew e member])
  · cases mid with
    | nil =>
      have member : e ∈ new := by
        rw [← List.nil_append new, ← hmid]
        exact List.mem_cons_self
      exact absurd he (by simp [hnew e member])
    | cons x mid =>
      obtain ⟨rfl, -⟩ := List.cons.inj hmid
      exact h before e mid rfl he

/-- A WREN after such a read. -/
theorem wrensReady_concat {evs : List Event} (h : wrensReady evs) (hready : endsReady evs) (x : Event) :
    wrensReady (evs ++ [x]) := by
  intro before e after heq he
  rcases List.eq_nil_or_concat after with rfl | ⟨mid, y, rfl⟩
  · obtain ⟨rfl, -⟩ := List.append_inj' heq rfl
    exact hready
  · have split : evs ++ [x] = (before ++ e :: mid) ++ [y] := by simpa using heq
    obtain ⟨rfl, -⟩ := List.append_inj' split rfl
    exact h before e mid rfl he

/-- Every line that sends a WREN comes directly after a poll loop, and no poll loop has begun. -/
def wrenGuarded : List Line → Bool
  | [] => true
  | .poll .read :: .sendWren :: rest => wrenGuarded rest
  | .poll .read :: rest => wrenGuarded rest
  | .sendWren :: _ | .xferFrame :: _ | .poll _ :: _ => false
  | _ :: rest => wrenGuarded rest

/-- Where the lines stand with the events so far: before a poll loop, inside one, where the byte of the last read is at hand, or
at a WREN that a poll loop has led to. -/
inductive WrenPhase (evs : List Event) (u : State) : Prop where
  | outside (h : wrenGuarded u.ptr = true)
  | polling {p : PollLine} {rest : List Line} (hp : u.ptr = .poll p :: rest)
      (h : wrenGuarded (.poll .read :: rest) = true)
      (hread : p = .ready → ∃ early, evs = early ++ [readEvent 0x05#8 u.locals.sr1])
  | atWren {rest : List Line} (hp : u.ptr = .sendWren :: rest) (h : wrenGuarded rest = true) (hready : endsReady evs)

/-- Outside the poll loops a line that may stand there leads to lines that may stand there. -/
theorem wrenGuarded_tail {l : Line} {rest : List Line} (hl : ∀ p, l ≠ .poll p) (h : wrenGuarded (l :: rest) = true) :
    l ≠ .sendWren ∧ l ≠ .xferFrame ∧ wrenGuarded rest = true := by
  cases l with
  | poll p => exact absurd rfl (hl p)
  | sendWren | xferFrame => simp [wrenGuarded] at h
  | _ => exact ⟨nofun, nofun, h⟩

/-- After a poll loop: lines that may stand there, or the WREN it leads to. -/
theorem wrenGuarded_after_poll {rest : List Line} (h : wrenGuarded (.poll .read :: rest) = true) :
    wrenGuarded rest = true ∨ ∃ ms, rest = .sendWren :: ms ∧ wrenGuarded ms = true := by
  cases rest with
  | nil => exact .inl rfl
  | cons l ms =>
    cases l with
    | sendWren => exact .inr ⟨ms, rfl, h⟩
    | _ => exact .inl h

/-- What a line adds to the events and leaves of the lines. -/
def WrenKept (evs : List Event) (u v : State) : Prop :=
  ∃ new, v.trace = u.trace ++ new ∧ wrensReady (evs ++ new) ∧ (v.status.active = true → WrenPhase (evs ++ new) v)

/-- A line that sends no WREN adds none. -/
theorem LineStep.wrenKept {u v : State} {l : Line} {evs : List Event} (h : LineStep u l v) (hw : l ≠ .sendWren)
    (hx : l ≠ .xferFrame) (hevs : wrensReady evs) (hv : ∀ evs', v.status.active = true → WrenPhase evs' v) :
    WrenKept evs u v := by
  obtain ⟨new, htrace, hfree⟩ := h.newFrames
  exact ⟨new, htrace, wrensReady_append hevs (hfree _ (wren_of_lineFrame hw hx)), hv _⟩

/-- A WREN comes after the read that led to it. -/
theorem LineStep.wrenKept_sendWren {u v : State} {rest : List Line} {evs : List Event} (h : LineStep u .sendWren v)
    (hp : u.ptr = .sendWren :: rest) (hguard : wrenGuarded rest = true) (hready : endsReady evs) (hevs : wrensReady evs) :
    WrenKept evs u v := by
  cases h with
  | passed hpass => exact hpass.elim
  | operands hl => simp at hl
  | sent hf =>
    obtain rfl : wrenFrame = _ := Option.some.inj hf
    refine ⟨[_], rfl, wrensReady_concat hevs hready _, fun _ => .outside ?_⟩
    simpa [hp, nextLines] using hguard
  | failed hf =>
    refine ⟨[_] ++ [_], List.append_assoc _ _ _, ?_, nofun⟩
    rw [← List.append_assoc]
    exact wrensReady_append (wrensReady_concat hevs hready _) (by simp [free, Event.isFrameOf])
  | raised => exact ⟨[_], rfl, wrensReady_append hevs (by simp [free, Event.isFrameOf]), nofun⟩

/-- A poll loop is left with the read that shows BUSY clear as the last event. -/
theorem LineStep.wrenKept_poll {u v : State} {p : PollLine} {rest : List Line} {evs : List Event} (h : LineStep u (.poll p) v)
    (hp : u.ptr = .poll p :: rest) (hguard : wrenGuarded (.poll .read :: rest) = true)
    (hread : p = .ready → ∃ early, evs = early ++ [readEvent 0x05#8 u.locals.sr1]) (hevs : wrensReady evs) :
    WrenKept evs u v := by
  have goes_on {q : PollLine} (hq : q ≠ .ready) (hv : v.ptr = .poll q :: rest) : WrenKept evs u v :=
    h.wrenKept nofun nofun hevs fun _ _ => .polling hv hguard fun hready => absurd hready hq
  have ended (hv : v.status.active = false) : WrenKept evs u v :=
    h.wrenKept nofun nofun hevs fun _ hactive => absurd hactive (by simp [hv])
  cases h with
  | raised | failed => exact ended rfl
  | operands hl => simp at hl
  | counted => exact goes_on (q := .exhausted) nofun (by simp [linePollCount, hp, nextLines])
  | waited => exact goes_on (q := .read) nofun (by simp [linePollWait, hp, nextLines])
  | passed hpass =>
    cases p with
    | read | count | wait => exact hpass.elim
    | ready => exact goes_on (q := .count) nofun (by simp [hp, nextLines])
    | exhausted => exact goes_on (q := .wait) nofun (by simp [hp, nextLines])
  | answered hclear =>
    refine ⟨[], (List.append_nil _).symm, by rwa [List.append_nil], fun _ => ?_⟩
    have left : u.leaveLoop.ptr = rest := by simp [hp]
    obtain hrest | ⟨ms, rfl, hms⟩ := wrenGuarded_after_poll hguard
    · exact .outside (left ▸ hrest)
    · obtain ⟨early, rfl⟩ := hread rfl
      refine .atWren left hms ⟨early, _, List.append_nil _, ?_⟩
      simp [readEvent, Event.readyRead, hclear]
  | sent hf hm ha hst =>
    cases p with
    | ready | count | exhausted | wait => simp [lineFrame] at hf
    | read =>
      obtain rfl : rdsr1Frame = _ := Option.some.inj hf
      obtain ⟨b, hrx, hevent⟩ := rdsr1_reply u hst
      refine ⟨[readEvent 0x05#8 b], by rw [← hevent]; rfl, wrensReady_append hevs (by simp [free, readEvent, Event.isFrameOf]),
        fun _ => .polling (p := .ready) (rest := rest) (by simp [hp, nextLines]) hguard fun _ => ⟨evs, ?_⟩⟩
      simp [hp, hrx, Locals.keep]

/-- A line of a sequencer keeps the WRENs after reads that show BUSY clear. -/
theorem LineStep.wrenPhase {u v : State} {l : Line} {rest : List Line} {evs : List Event} (h : LineStep u l v)
    (hp : u.ptr = l :: rest) (hphase : WrenPhase evs u) (hevs : wrensReady evs) : WrenKept evs u v := by
  cases hphase with
  | atWren hp' hguard hready =>
    obtain ⟨rfl, rfl⟩ := List.cons.inj (hp.symm.trans hp')
    exact h.wrenKept_sendWren hp hguard hready hevs
  | polling hp' hguard hread =>
    obtain ⟨rfl, rfl⟩ := List.cons.inj (hp.symm.trans hp')
    exact h.wrenKept_poll hp hguard hread hevs
  | outside hguard =>
    rw [hp] at hguard
    by_cases hpoll : ∃ p, l = .poll p
    · obtain ⟨p, rfl⟩ := hpoll
      cases p with
      | read => exact h.wrenKept_poll hp hguard nofun hevs
      | ready | count | exhausted | wait => simp [wrenGuarded] at hguard
    · have outside : ∀ p, l ≠ .poll p := fun p hlp => hpoll ⟨p, hlp⟩
      obtain ⟨hw, hx, hrest⟩ := wrenGuarded_tail outside hguard
      refine h.wrenKept hw hx hevs fun _ hactive => .outside ?_
      obtain ⟨-, ⟨hptr, -⟩ | ⟨hready, -⟩⟩ | ⟨hidle, -⟩ := h.control
      · rwa [hptr, hp, nextLines_of_not_poll l rest outside]
      · exact absurd hready (outside .ready)
      · simp [hidle] at hactive

/-- The sequencers that send a WREN send it after a poll loop. -/
theorem wrenGuarded_lines (i : Instr) (hi : i.handshakes = true) :
    ∃ w, encode i = .request w ∧ ∀ ls, i.lines = some ls → wrenGuarded (ls ++ [.endOk]) = true := by
  cases i with
  | enableWrite | resetProtection | runRecovery =>
    refine ⟨_, rfl, fun ls hl => ?_⟩
    cases hl
    decide
  | _ => simp [Instr.handshakes] at hi

/-- Settles O46: along the lines, a poll loop ends with the read that lets it end, and the WREN is the line after it. -/
theorem wrenOnlyAfterReadyRead : Obligations.WrenOnlyAfterReadyRead := by
  intro i s t before after e hi hready hexec hnew he
  obtain ⟨w, hw, hguard⟩ := wrenGuarded_lines i hi
  obtain ⟨⟨evs, htrace, hevs, -⟩, -⟩ := exec_induction
    (I := fun u => ∃ evs, u.trace = s.trace ++ evs ∧ wrensReady evs ∧ (u.status.active = true → WrenPhase evs u))
    hw hready hexec
    (fun ls hl => ⟨[], (List.append_nil _).symm, by simp [wrensReady], fun _ => .outside (hguard ls hl)⟩)
    (fun u l rest v hu ha hp h => by
      obtain ⟨evs, htrace, hevs, hphase⟩ := hu
      obtain ⟨new, hv, hall, hnext⟩ := h.wrenPhase hp (hphase ha) hevs
      exact ⟨evs ++ new, by rw [hv, htrace, List.append_assoc], hall, hnext⟩)
  rw [newEvents, htrace, List.drop_left] at hnew
  exact hevs before e after hnew he

end Sys2Proof.Machine
end

section
/-! The order of a sequencer's WRSR1 (SPEC 46_protection_reset.md, R215 to R217; 70_reset_and_hazards.md, R306): it follows a WREN
and the verification read of the same write-enable handshake, and is the only one. -/
namespace Sys2Proof.Machine

open Sys2Proof.Config

/-! ### How far the lines are on the way to a WRSR1 -/

/-- Nothing yet, a WREN sent, the verification read answered, the latch checked, the WRSR1 sent. -/
inductive WritePhase where
  | start
  | opened
  | answered
  | verified
  | written

/-- The phase after a line that goes on. -/
def WritePhase.after : WritePhase → Line → WritePhase
  | .written, _ => .written
  | _, .sendWren => .opened
  | .opened, .needConfigured | .opened, .loadRetry | .opened, .poll _ => .opened
  | .opened, .verifyRead => .answered
  | .answered, .verifyLatch => .verified
  | .verified, .sendWrsr1 => .written
  | _, _ => .start

/-- A WRSR1 is sent once the latch is checked, and never again; TRANSFER's frame is no sequencer's. -/
def WritePhase.allows : WritePhase → Line → Bool
  | .verified, .sendWrsr1 => true
  | _, .sendWrsr1 | _, .xferFrame => false
  | _, _ => true

/-- Lines that run one after another are allowed where they stand. -/
def WritePhase.guards : WritePhase → List Line → Bool
  | _, [] => true
  | ph, l :: rest => ph.allows l && (ph.after l).guards rest

/-- The lines of the poll loop have the phase in common. -/
theorem WritePhase.after_poll (ph : WritePhase) (p q : PollLine) :
    ph.after (.poll q) = ph.after (.poll p) ∧ (ph.after (.poll p)).after (.poll q) = ph.after (.poll p) := by
  cases ph <;> exact ⟨rfl, rfl⟩

theorem WritePhase.guards_nextLines (ph : WritePhase) (l : Line) (rest : List Line) (h : ph.guards (l :: rest) = true) :
    (ph.after l).guards (nextLines (l :: rest)) = true := by
  obtain ⟨-, hrest⟩ := Bool.and_eq_true_iff.mp h
  have loop (p q : PollLine) (hp : (ph.after (.poll p)).guards rest = true) :
      (ph.after (.poll p)).guards (.poll q :: rest) = true := by
    have allowed : (ph.after (.poll p)).allows (.poll q) = true := by cases ph <;> rfl
    rw [WritePhase.guards, allowed, (ph.after_poll p q).2]
    exact hp
  cases l with
  | poll p => cases p <;> exact loop _ _ hrest
  | _ => exact hrest

/-- The lines after one that goes on are allowed too. -/
theorem LineStep.guards {u v : State} {l : Line} {rest : List Line} {ph : WritePhase} (h : LineStep u l v)
    (hp : u.ptr = l :: rest) (hg : ph.guards (l :: rest) = true) (hv : v.status.active = true) :
    (ph.after l).guards v.ptr = true := by
  obtain ⟨-, ⟨hptr, -⟩ | ⟨-, hptr⟩⟩ | ⟨hidle, -⟩ := h.control
  · rw [hptr, hp]
    exact ph.guards_nextLines l rest hg
  · rw [hptr, hp]
    exact (Bool.and_eq_true_iff.mp hg).2
  · simp [hidle] at hv

/-! ### The events of each phase -/

/-- After a WREN there were status reads and waits only. -/
def AfterWren (evs : List Event) : Prop :=
  ∃ early between, evs = early ++ [wrenEvent] ++ between ∧ ∀ x ∈ between, x.readsOrWaits = true

/-- The handshake's verification read came last, and brought the byte b. -/
def AfterRead (b : Byte) (evs : List Event) : Prop :=
  ∃ early between, evs = early ++ [wrenEvent] ++ between ++ [readEvent 0x05#8 b] ∧ ∀ x ∈ between, x.readsOrWaits = true

/-- That byte shows the latch, where WEL_CHECK asks for it. -/
def AfterLatch (p : Params) (b : Byte) (evs : List Event) : Prop :=
  AfterRead b evs ∧ (p.welCheck = true → welSet p.srLayout b = true)

/-- One WRSR1 with the payload 0x00 is among the events, after a latch that showed. -/
def AfterWrite (p : Params) (evs : List Event) : Prop :=
  ∃ early later st b, evs = early ++ .frame 0x01#8 none [0x00#8] 0 st [] :: later ∧ AfterLatch p b early ∧
    free 0x01#8 early ∧ free 0x01#8 later

/-- What the events are in each phase, with sr1 the byte of the last read. -/
def WritePhase.holds (p : Params) (sr1 : Byte) (evs : List Event) : WritePhase → Prop
  | .start => free 0x01#8 evs
  | .opened => free 0x01#8 evs ∧ AfterWren evs
  | .answered => free 0x01#8 evs ∧ AfterRead sr1 evs
  | .verified => free 0x01#8 evs ∧ AfterLatch p sr1 evs
  | .written => AfterWrite p evs

/-- In every phase there is no WRSR1, or the one. -/
theorem WritePhase.free_or_written {p : Params} {sr1 : Byte} {evs : List Event} {ph : WritePhase}
    (h : ph.holds p sr1 evs) : free 0x01#8 evs ∨ AfterWrite p evs := by
  cases ph with
  | start => exact .inl h
  | opened | answered | verified => exact .inl h.1
  | written => exact .inr h

theorem AfterWrite.append {p : Params} {evs new : List Event} (h : AfterWrite p evs) (hnew : free 0x01#8 new) :
    AfterWrite p (evs ++ new) := by
  obtain ⟨early, later, st, b, rfl, hlatch, hearly, hlater⟩ := h
  exact ⟨early, later ++ new, st, b, by simp, hlatch, hearly, free_append hlater hnew⟩

/-! ### The lines that matter -/

/-- What a line adds to the events and leaves of the phase. -/
def WriteKept (ph : WritePhase) (evs : List Event) (u v : State) : Prop :=
  ∃ new, v.trace = u.trace ++ new ∧ (free 0x01#8 (evs ++ new) ∨ AfterWrite u.params (evs ++ new)) ∧
    (v.status.active = true → ph.holds u.params v.locals.sr1 (evs ++ new))

/-- A line that goes on, with the events it added. -/
theorem WriteKept.of_holds {ph : WritePhase} {evs new : List Event} {u v : State} (hv : v.trace = u.trace ++ new)
    (h : ph.holds u.params v.locals.sr1 (evs ++ new)) : WriteKept ph evs u v :=
  ⟨new, hv, WritePhase.free_or_written h, fun _ => h⟩

/-- A line that ends the operation, with the events it added. -/
theorem WriteKept.of_idle {ph : WritePhase} {evs new : List Event} {u v : State} (hv : v.trace = u.trace ++ new)
    (h : free 0x01#8 (evs ++ new) ∨ AfterWrite u.params (evs ++ new)) (hidle : v.status.active = false) :
    WriteKept ph evs u v :=
  ⟨new, hv, h, fun hactive => absurd hactive (by simp [hidle])⟩

section
variable {u v : State} {evs : List Event}

/-- A WREN opens. -/
theorem LineStep.opens (h : LineStep u .sendWren v) (hevs : free 0x01#8 evs) : WriteKept .opened evs u v := by
  obtain ⟨new, htrace, hnew⟩ := h.newFrames
  have all : free 0x01#8 (evs ++ new) := free_append hevs (hnew _ (wrsr1_of_lineFrame nofun nofun))
  cases h with
  | passed hpass => exact hpass.elim
  | operands hl => simp at hl
  | raised | failed => exact .of_idle htrace (.inl all) rfl
  | sent hf hm ha hst =>
    obtain rfl : wrenFrame = _ := Option.some.inj hf
    have event : frameEvent wrenFrame (u.reply wrenFrame) = wrenEvent := write_reply u wrenFrame rfl rfl hst
    refine .of_holds (new := [wrenEvent]) (by rw [← event]; rfl) ⟨?_, evs, [], (List.append_nil _).symm, by simp⟩
    exact free_append hevs (by simp [free, wrenEvent, Event.isFrameOf])

/-- The lines of a wait add status reads and waits. -/
theorem LineStep.waits {l : Line} (h : LineStep u l v) (hl : WritePhase.opened.after l = .opened) (hw : l ≠ .sendWren)
    (hv : v.status.active = true) : ∃ new, v.trace = u.trace ++ new ∧ ∀ x ∈ new, x.readsOrWaits = true := by
  cases h with
  | raised | failed | refused | finished => simp at hv
  | passed | answered | loaded | counted => exact ⟨[], (List.append_nil _).symm, by simp⟩
  | waited => exact ⟨[_], rfl, by simp [Event.readsOrWaits]⟩
  | operands hmem => exact ⟨[], (List.append_nil _).symm, by simp⟩
  | cfgEmitted | recorded | stored | pinned | released | ordered => cases hl
  | sent hf =>
    cases l with
    | sendWren => exact absurd rfl hw
    | poll p =>
      cases p with
      | read =>
        obtain rfl : rdsr1Frame = _ := Option.some.inj hf
        exact ⟨[_], rfl, by simp [frameEvent, rdsr1Frame, Event.readsOrWaits]⟩
      | _ => simp [lineFrame] at hf
    | needConfigured | loadRetry => simp [lineFrame] at hf
    | _ => cases hl

/-- A successful verification read answers. -/
theorem LineStep.answers {rest : List Line} (h : LineStep u .verifyRead v) (hp : u.ptr = .verifyRead :: rest)
    (hevs : free 0x01#8 evs) (hafter : AfterWren evs) : WriteKept .answered evs u v := by
  obtain ⟨new, htrace, hnew⟩ := h.newFrames
  have all : free 0x01#8 (evs ++ new) := free_append hevs (hnew _ (wrsr1_of_lineFrame nofun nofun))
  cases h with
  | passed hpass => exact hpass.elim
  | operands hl => simp at hl
  | raised | failed => exact .of_idle htrace (.inl all) rfl
  | sent hf hm ha hst =>
    obtain rfl : rdsr1Frame = _ := Option.some.inj hf
    obtain ⟨b, hrx, event⟩ := rdsr1_reply u hst
    obtain ⟨early, between, rfl, hbetween⟩ := hafter
    refine .of_holds (new := [readEvent 0x05#8 b]) (by rw [← event]; rfl) ⟨?_, early, between, ?_, hbetween⟩
    · exact free_append hevs (by simp [free, readEvent, Event.isFrameOf])
    · simp [hp, hrx, Locals.keep]

/-- The latch shows, where WEL_CHECK asks for it. -/
theorem LineStep.verifies (h : LineStep u .verifyLatch v) (hevs : free 0x01#8 evs)
    (hafter : AfterRead u.locals.sr1 evs) : WriteKept .verified evs u v := by
  cases h with
  | passed hpass =>
    refine .of_holds (new := []) (List.append_nil _).symm ⟨by rwa [List.append_nil], ?_, hpass⟩
    rwa [List.append_nil]
  | operands hl => simp at hl
  | raised => exact .of_idle rfl (.inl (free_append hevs (by simp [free, Event.isFrameOf]))) rfl
  | sent hf | failed hf => simp [lineFrame] at hf

/-- The WRSR1, whether its frame succeeds or fails. -/
theorem LineStep.writes (h : LineStep u .sendWrsr1 v) (hevs : free 0x01#8 evs)
    (hafter : AfterLatch u.params u.locals.sr1 evs) : WriteKept .written evs u v := by
  have sent (r : Reply) (later : List Event) (hlater : free 0x01#8 later) (hr : r.rx = [] ∨ r.st ≠ 0#32) :
      AfterWrite u.params (evs ++ frameEvent (wrsr1Frame 0x00#8) r :: later) := by
    refine ⟨evs, later, r.st, _, ?_, hafter, hevs, hlater⟩
    rcases hr with hr | hr <;> simp [frameEvent, wrsr1Frame, hr]
  cases h with
  | passed hpass => exact hpass.elim
  | operands hl => simp at hl
  | raised => exact .of_idle rfl (.inl (free_append hevs (by simp [free, Event.isFrameOf]))) rfl
  | sent hf hm ha hst =>
    obtain rfl : wrsr1Frame 0x00#8 = _ := Option.some.inj hf
    have silent : (u.reply (wrsr1Frame 0x00#8)).rx = [] :=
      List.length_eq_zero_iff.mp (length_busFrame_rx u.params u.latchRole (wrsr1Frame 0x00#8) u.env ha hst)
    exact .of_holds (new := [_]) rfl (sent _ [] (by simp [free]) (.inl silent))
  | failed hf hm ha hst =>
    obtain rfl : wrsr1Frame 0x00#8 = _ := Option.some.inj hf
    exact .of_idle (new := [_, _]) (List.append_assoc _ _ _)
      (.inr (sent _ [_] (by simp [free, Event.isFrameOf]) (.inr hst))) rfl

/-- Every line that is allowed where it stands keeps to its phase. -/
theorem LineStep.writeKept {l : Line} {rest : List Line} {ph : WritePhase} (h : LineStep u l v) (hp : u.ptr = l :: rest)
    (hallow : ph.allows l = true) (hph : ph.holds u.params u.locals.sr1 evs) : WriteKept (ph.after l) evs u v := by
  obtain ⟨new, htrace, hnew⟩ := h.newFrames
  have silent (hl : l ≠ .sendWrsr1) : free 0x01#8 new :=
    hnew _ (wrsr1_of_lineFrame hl (by rintro rfl; cases ph <;> cases hallow))
  have starts (hl : l ≠ .sendWrsr1) (hevs : free 0x01#8 evs) : WriteKept .start evs u v :=
    .of_holds htrace (free_append hevs (silent hl))
  cases ph with
  | written =>
    have hl : l ≠ .sendWrsr1 := by
      rintro rfl
      cases hallow
    exact .of_holds htrace (AfterWrite.append hph (silent hl))
  | start =>
    cases l with
    | sendWren => exact h.opens hph
    | sendWrsr1 => cases hallow
    | _ => exact starts nofun hph
  | opened =>
    obtain ⟨hevs, hafter⟩ := hph
    have waits (hw : WritePhase.opened.after l = .opened) (hl : l ≠ .sendWren) (hl' : l ≠ .sendWrsr1) :
        WriteKept .opened evs u v := by
      by_cases hactive : v.status.active = true
      · obtain ⟨new', htrace', hwaits⟩ := h.waits hw hl hactive
        obtain rfl : new = new' := List.append_cancel_left (htrace.symm.trans htrace')
        obtain ⟨early, between, rfl, hbetween⟩ := hafter
        refine .of_holds htrace ⟨free_append hevs (silent hl'), early, between ++ new, by simp, fun x hx => ?_⟩
        exact (List.mem_append.mp hx).elim (hbetween x) (hwaits x)
      · exact .of_idle htrace (.inl (free_append hevs (silent hl'))) (by simpa using hactive)
    cases l with
    | sendWren => exact h.opens hevs
    | sendWrsr1 => cases hallow
    | needConfigured | loadRetry | poll => exact waits rfl nofun nofun
    | verifyRead => exact h.answers hp hevs hafter
    | _ => exact starts nofun hevs
  | answered =>
    cases l with
    | sendWren => exact h.opens hph.1
    | sendWrsr1 => cases hallow
    | verifyLatch => exact h.verifies hph.1 hph.2
    | _ => exact starts nofun hph.1
  | verified =>
    cases l with
    | sendWren => exact h.opens hph.1
    | sendWrsr1 => exact h.writes hph.1 hph.2
    | _ => exact starts nofun hph.1

end

/-! ### The statement -/

/-- The sequencers that send a WRSR1 send it where it is allowed. -/
theorem guards_lines (i : Instr) (hi : i.clears = true) :
    ∃ w, encode i = .request w ∧ ∀ ls, i.lines = some ls → WritePhase.start.guards (ls ++ [.endOk]) = true := by
  cases i with
  | resetProtection | runRecovery =>
    refine ⟨_, rfl, fun ls hl => ?_⟩
    cases hl
    decide
  | _ => simp [Instr.clears] at hi

/-- While it runs, a request is in a phase that holds and allows its lines. -/
def Writing (s u : State) (evs : List Event) : Prop :=
  ∃ ph : WritePhase, ph.holds s.params u.locals.sr1 evs ∧ ph.guards u.ptr = true

/-- Whatever the environment answers, there is no WRSR1 among the events, or the one. -/
theorem clearing_events {i : Instr} {s t : State} (hi : i.clears = true) (hready : s.ready) (hexec : exec i s = .next t) :
    free 0x01#8 (newEvents s t) ∨ AfterWrite s.params (newEvents s t) := by
  obtain ⟨w, hw, hguard⟩ := guards_lines i hi
  obtain ⟨⟨-, evs, htrace, hevs, -⟩, -⟩ := exec_induction
    (I := fun u => u.params = s.params ∧ ∃ evs, u.trace = s.trace ++ evs ∧
      (free 0x01#8 evs ∨ AfterWrite s.params evs) ∧ (u.status.active = true → Writing s u evs))
    hw hready hexec
    (fun ls hl => by
      have none_yet : free 0x01#8 [] := by simp [free]
      exact ⟨rfl, [], (List.append_nil _).symm, .inl none_yet, fun _ => ⟨.start, none_yet, hguard ls hl⟩⟩)
    (fun u l rest v hu ha hp h => by
      obtain ⟨hparams, evs, htrace, -, hwriting⟩ := hu
      obtain ⟨ph, hph, hg⟩ := hwriting ha
      rw [hp] at hg
      rw [← hparams] at hph ⊢
      obtain ⟨new, hv, hall, hnext⟩ := h.writeKept hp (Bool.and_eq_true_iff.mp hg).1 hph
      refine ⟨h.latched.2.1, evs ++ new, by rw [hv, htrace, List.append_assoc], hall, fun hactive => ?_⟩
      refine ⟨ph.after l, ?_, h.guards hp hg hactive⟩
      rw [← hparams]
      exact hnext hactive)
  rw [newEvents, htrace, List.drop_left]
  exact hevs

/-- Settles O51: the lines lead to the WRSR1 through the phases of the write-enable handshake, and there is one such place. -/
theorem writeOnlyAfterVerifiedWren : Obligations.WriteOnlyAfterVerifiedWren := by
  intro i s t before after e hi hready hexec hnew he
  obtain hfree | ⟨early, later, st, b, hevs, ⟨hread, hlatch⟩, hearly, hlater⟩ := clearing_events hi hready hexec
  · have member : e ∈ newEvents s t := by simp [hnew]
    exact absurd he (by simp [hfree e member])
  · have noWrite (evs : List Event) (h : free 0x01#8 evs) : e ∉ evs := fun hmem => by simp [h e hmem] at he
    rw [hevs] at hnew
    obtain ⟨rfl, rfl, rfl⟩ : before = early ∧ e = .frame 0x01#8 none [0x00#8] 0 st [] ∧ after = later := by
      have member : e ∈ early ++ .frame 0x01#8 none [0x00#8] 0 st [] :: later := by simp [hnew]
      obtain hmem | hmem := List.mem_append.mp member
      · exact absurd hmem (noWrite _ hearly)
      obtain rfl | hmem := List.mem_cons.mp hmem
      · obtain ⟨rfl, -, rfl⟩ := (List.append_cons_inj_of_notMem (noWrite _ hearly) (noWrite _ hlater)).mp hnew
        exact ⟨rfl, rfl, rfl⟩
      · exact absurd hmem (noWrite _ hlater)
    obtain ⟨first, between, hsplit, hbetween⟩ := hread
    exact ⟨⟨st, rfl⟩, ⟨first, between, b, hsplit, hbetween, hlatch⟩, free_append hearly hlater⟩

end Sys2Proof.Machine
end

section
/-! The operations whose every answer succeeds (SPEC 41_configurator.md to 46_protection_reset.md): each is the run of its
sub-operations, and its last line ends it with OK. -/
namespace Sys2Proof.Machine

open Sys2Proof.Config

/-! ### From a run to its request -/

/-- A request whose lines bring it to its end within the rounds it has (R88). -/
theorem request_stops {w : Word} {ls : List Line} {s t : State} (n : Nat) (hidle : s.status.active = false)
    (h : ∀ k, run (k + n) (accept w (ls ++ [.endOk]) s) = t) (hn : n ≤ roundLimit) : request w ls s = t := by
  rw [request_idle w ls s hidle, ← h (roundLimit - n), Nat.sub_add_cancel hn]

/-- A request whose lines bring it to its last line, which returns OK (R89). -/
theorem request_completes {w : Word} {ls : List Line} {s u : State} (n : Nat) (hidle : s.status.active = false)
    (h : ∀ k, run (k + n) (accept w (ls ++ [.endOk]) s) = run k u) (hn : n < roundLimit) (ha : u.status.active = true)
    (hq : u.quiet = true) (hp : u.ptr = [.endOk]) : request w ls s = finish u := by
  refine request_stops (n + 1) hidle (fun k => ?_) hn
  rw [← Nat.add_assoc, Nat.add_right_comm, h]
  exact end_run k u _ ha hq hp rfl

/-- `return OK` of an operation (R89). -/
theorem finish_of_latOp {s : State} {op : BitVec 4} (h : s.latOp = op) :
    finish s =
      { s with
        status := { s.status with active := false }
        result := Result.success op
        trace := s.trace ++ [.done op 0x0#4]
        ptr := []
        locals := Locals.clear } := by
  subst h
  rfl

/-- An error outside RUN_RECOVERY ends the operation and aborts nothing else (R89, R234). -/
theorem raise_of_latOp {s : State} {op : BitVec 4} (k : ErrKind) (info : ErrInfo) (h : s.latOp = op) (hop : op ≠ 0x8#4) :
    raise k info s =
      { s with
        status := { s.status with active := false }
        result := ⟨k.code, op, info.opc.getD 0#8, info.sr1.getD 0#8, info.opc.isSome, info.sr1.isSome⟩
        errStatus := info.status.getD s.errStatus
        trace := s.trace ++ [.done op k.code]
        ptr := []
        locals := Locals.clear } := by
  subst h
  exact raise_plain k info s hop

/-! ### CONFIGURE -/

/-- Settles O29: its lines are CONFIGURE's own, and the format is legal. -/
theorem configureCompletes : Obligations.ConfigureCompletes := by
  intro f s hready hconfigured haw hfreq
  obtain ⟨hidle, hquiet⟩ := hready
  have aw_operand := awOperand_accept_requestWord 0x1#4 f (configureLines ++ [.endOk]) s
  have ran (k : Nat) := configure_run k [.endOk] (accept (requestWord 0x1#4 f) (configureLines ++ [.endOk]) s)
    (readOperand s.freq s.env).1 (readOperand s.freq s.env).2 rfl hquiet hconfigured rfl rfl (by rwa [aw_operand]) hfreq
  rw [exec_configure, request_completes 6 hidle ran (by decide) rfl (quiet_of_port hquiet rfl) rfl,
    finish_of_latOp (op := 0x1#4) (by exact opField_requestWord _ f), aw_operand, setWidth_byte_word]
  rfl

/-! ### WAIT_READY, ENABLE_WRITE and RESET_PROTECTION -/

/-- A wait that succeeds uses fewer reads than its budget has (R152). -/
theorem ReadyWait.holds.short {w : ReadyWait} {p : Params} {l : LineRole} {e e' : Env} (h : w.holds p l e e') :
    w.busyOnes.length < 10000 := h.2.2.1

theorem Handshake.holds.short {h : Handshake} {p : Params} {l : LineRole} {e e' : Env} (hh : h.holds p l e e') :
    h.first.busyOnes.length < 10000 ∧ h.second.busyOnes.length < 10000 := by
  obtain ⟨_, _, _, first, -, second, -⟩ := hh
  exact ⟨first.short, second.short⟩

theorem Clearing.holds.short {c : Clearing} {p : Params} {l : LineRole} {e e' : Env} (h : c.holds p l e e') :
    c.first.busyOnes.length < 10000 ∧ c.enable.first.busyOnes.length < 10000 ∧
      c.enable.second.busyOnes.length < 10000 ∧ c.last.busyOnes.length < 10000 := by
  obtain ⟨_, _, _, first, enable, -, last⟩ := h
  exact ⟨first.short, enable.short.1, enable.short.2, last.short⟩

/-- Settles O41: the run of its one wait. -/
theorem waitReadyCompletes : Obligations.WaitReadyCompletes := by
  intro f s wait e' hready hconfigured hsingle hwait
  obtain ⟨hidle, hquiet⟩ := hready
  have short := hwait.short
  have ran (k : Nat) := wait_run wait k [.endOk] (accept (requestWord 0x3#4 f) (waitReadyLines ++ [.endOk]) s) e' rfl
    hquiet hsingle hconfigured rfl hwait
  rw [exec_waitReady, request_completes _ hidle ran (by unfold roundLimit; omega) rfl (quiet_of_port hquiet rfl) rfl,
    finish_of_latOp (op := 0x3#4) (by exact opField_requestWord _ f)]
  rfl

/-- Settles O42: the poll loop uses up its budget, and that ends the operation, which is not RUN_RECOVERY. -/
theorem waitReadyTimesOut : Obligations.WaitReadyTimesOut := by
  intro f s bs b e' hready hconfigured hsingle hlen hbusy hreads
  obtain ⟨hidle, hquiet⟩ := hready
  have ran (k : Nat) := timeout_run bs b k [.endOk] (accept (requestWord 0x3#4 f) (waitReadyLines ++ [.endOk]) s) e' rfl
    hquiet hsingle hconfigured rfl hlen hbusy hreads
  rw [exec_waitReady, request_stops _ hidle ran (by unfold roundLimit; omega),
    raise_of_latOp (op := 0x3#4) _ _ (by exact opField_requestWord _ f) (by decide)]
  rfl

/-- The meaning of ENABLE_WRITE is its request (R165). -/
theorem exec_enableWrite (f : Fields) (s : State) :
    exec (.enableWrite f) s = .next (request (requestWord 0x4#4 f) enableWriteLines s) := rfl

/-- Settles O44: the run of one handshake. -/
theorem enableWriteCompletes : Obligations.EnableWriteCompletes := by
  intro f s h e' hready hconfigured hsingle hh hlatched
  obtain ⟨hidle, hquiet⟩ := hready
  obtain ⟨short, short'⟩ := hh.short
  have ran (k : Nat) := handshake_run h k [.endOk] (accept (requestWord 0x4#4 f) (enableWriteLines ++ [.endOk]) s) e' rfl
    hquiet hsingle hconfigured rfl hh hlatched
  rw [exec_enableWrite, request_completes _ hidle ran (by unfold roundLimit; omega) rfl (quiet_of_port hquiet rfl) rfl,
    finish_of_latOp (op := 0x4#4) (by exact opField_requestWord _ f)]
  rfl

/-- The meaning of RESET_PROTECTION is its request (R215). -/
theorem exec_resetProtection (f : Fields) (s : State) :
    exec (.resetProtection f) s = .next (request (requestWord 0x7#4 f) resetProtectionLines s) := rfl

/-- Settles O50: the run of one protection reset. -/
theorem resetProtectionCompletes : Obligations.ResetProtectionCompletes := by
  intro f s c e' hready hconfigured hsingle hc hlatched
  obtain ⟨hidle, hquiet⟩ := hready
  obtain ⟨first, second, third, last⟩ := hc.short
  have ran (k : Nat) := clearing_run c k [.endOk] (accept (requestWord 0x7#4 f) (resetProtectionLines ++ [.endOk]) s) e'
    rfl hquiet hsingle hconfigured rfl hc hlatched
  rw [exec_resetProtection, request_completes _ hidle ran (by unfold roundLimit; omega) rfl (quiet_of_port hquiet rfl) rfl,
    finish_of_latOp (op := 0x7#4) (by exact opField_requestWord _ f)]
  rfl

/-! ### READ_DECODE and RELEASE_LATCH -/

/-- The meaning of READ_DECODE is its request (R185). -/
theorem exec_readDecode (f : Fields) (s : State) :
    exec (.readDecode f) s = .next (request (requestWord 0x5#4 f) readDecodeLines s) := rfl

/-- Settles O47: the run of the three reads and their store. -/
theorem readDecodeCompletes : Obligations.ReadDecodeCompletes := by
  intro f s b e' hready hconfigured hsingle hb
  obtain ⟨hidle, hquiet⟩ := hready
  have ran (k : Nat) := triple_run b k [.endOk] (accept (requestWord 0x5#4 f) (readDecodeLines ++ [.endOk]) s) e' rfl
    hquiet hsingle hconfigured rfl hb
  rw [exec_readDecode, request_completes _ hidle ran (by decide) rfl (quiet_of_port hquiet rfl) rfl,
    finish_of_latOp (op := 0x5#4) (by exact opField_requestWord _ f)]
  rfl

/-- The meaning of RELEASE_LATCH is its request (R200). -/
theorem exec_releaseLatch (f : Fields) (s : State) :
    exec (.releaseLatch f) s = .next (request (requestWord 0x6#4 f) releaseLatchLines s) := rfl

/-- Settles O49: the run of the pin-controller call and the mark. -/
theorem releaseLatchCompletes : Obligations.ReleaseLatchCompletes := by
  intro f s hready hconfigured hreleased
  obtain ⟨hidle, hquiet⟩ := hready
  have ran (k : Nat) := release_run k [.endOk] (accept (requestWord 0x6#4 f) (releaseLatchLines ++ [.endOk]) s) rfl
    hquiet hconfigured hreleased rfl
  rw [exec_releaseLatch, request_completes _ hidle ran (by decide) rfl (quiet_of_port hquiet rfl) rfl,
    finish_of_latOp (op := 0x6#4) (by exact opField_requestWord _ f)]
  rfl

end Sys2Proof.Machine
end

section
/-! The operations that stop midway (SPEC 41_configurator.md, R144; 43_write_enable.md, R169; 44_status_decoder.md, R188; 60_exceptions.md,
R261) and the requests their preconditions refuse: the line that ends each, and what the lines before it left. -/
namespace Sys2Proof.Machine

open Sys2Proof.Config

/-! ### CONFIGURE with an illegal format -/

/-- The transport refuses a format that is not legal (R142). -/
theorem ne_zero_of_transportConfigure {p : Params} {aw freq cst : Word} {e e' : Env}
    (ht : transportConfigure p aw freq e = (cst, e'))
    (h : p.legalAw.admits aw = false ∨ p.legalFreq.contains freq = false) : cst ≠ 0#32 := by
  have accepted := transportConfigure_zero_iff p aw freq e
  rw [ht, Bool.and_eq_true] at accepted
  rw [Ne, accepted]
  rintro ⟨haw, hfreq⟩
  exact h.elim (fun h => absurd (h.symm.trans haw) nofun) (fun h => absurd (h.symm.trans hfreq) nofun)

/-- `call CONFIGURE` of an unconfigured bus with a format that is not legal: its lines 1 to 5 (R141, R144). -/
theorem configure_fails_run (k : Nat) (ls : List Line) (s : State) (freq cst : Word) (e e' : Env)
    (ha : s.status.active = true) (hq : s.quiet = true) (hc : s.status.configured = false)
    (hp : s.ptr = configureLines ++ ls) (ho : readOperand s.lat.freq s.env = (freq, e))
    (ht : transportConfigure s.params s.awOperand freq e = (cst, e')) (hcst : cst ≠ 0#32) :
    run (k + 5) s = raise .configurationFailure ⟨none, none, some cst⟩
      { s with env := e', trace := s.trace ++ [.cfg s.awOperand freq false] } := by
  refine (line_run (k + 4) s { s with ptr := .cfgOperands :: .cfgTransport :: .cfgEmit :: .cfgCheck :: .cfgRecord :: ls }
    .needUnconfigured _ ha hq hp ?_).trans ?_
  · simp [lineEffect, lineNeedUnconfigured, hc, State.advance, hp, nextLines, configureLines]
  refine (line_run (k + 3) _
    { s with
      ptr := .cfgTransport :: .cfgEmit :: .cfgCheck :: .cfgRecord :: ls
      env := e
      locals := { s.locals with aw := s.awOperand, freq := freq } } .cfgOperands _ (by exact ha) (by exact quiet_of_port hq rfl) (by rfl) ?_).trans ?_
  · simp [lineEffect, lineCfgOperands, ho, State.advance, nextLines, State.awOperand, State.latFields]
  refine (line_run (k + 2) _
    { s with
      ptr := .cfgEmit :: .cfgCheck :: .cfgRecord :: ls
      env := e'
      locals := { s.locals with aw := s.awOperand, freq := freq, cst := cst } } .cfgTransport _ (by exact ha) (by exact quiet_of_port hq rfl) (by rfl)
      ?_).trans ?_
  · simp [lineEffect, lineCfgTransport, ht, State.advance, nextLines]
  refine (line_run (k + 1) _
    { s with
      ptr := .cfgCheck :: .cfgRecord :: ls
      env := e'
      locals := { s.locals with aw := s.awOperand, freq := freq, cst := cst }
      trace := s.trace ++ [.cfg s.awOperand freq false] } .cfgEmit _ (by exact ha) (by exact quiet_of_port hq rfl) (by rfl) ?_).trans ?_
  · simp [lineEffect, lineCfgEmit, hcst, State.advance, State.emit, nextLines]
  refine stop_run k _ _ .cfgCheck _ (by exact ha) (by exact quiet_of_port hq rfl) (by rfl) ?_ rfl
  simp only [lineEffect, lineCfgCheck, if_pos hcst]
  rfl -- the two states differ in their pointer and locals alone, which `raise` clears

/-- Settles O30: the transport refuses at line 3, and line 5 ends the operation before anything is recorded. -/
theorem configureWithIllegalFormatFails : Obligations.ConfigureWithIllegalFormatFails := by
  intro f s freq cst e e' hready hconfigured hfreq htransport hillegal
  obtain ⟨hidle, hquiet⟩ := hready
  have refused : cst ≠ 0#32 := ne_zero_of_transportConfigure htransport hillegal
  have aw_operand := awOperand_accept_requestWord 0x1#4 f (configureLines ++ [.endOk]) s
  have ran (k : Nat) := configure_fails_run k [.endOk] (accept (requestWord 0x1#4 f) (configureLines ++ [.endOk]) s) freq
    cst e e' rfl hquiet hconfigured rfl hfreq (by rw [aw_operand]; exact htransport) refused
  refine ⟨refused, ?_⟩
  rw [exec_configure, request_stops 5 hidle ran (by decide),
    raise_of_latOp (op := 0x1#4) _ _ (by exact opField_requestWord _ f) (by decide), aw_operand]
  rfl

/-! ### Preconditions -/

/-- The operations that need a configured bus ask for it first, and RUN_RECOVERY is none of them. -/
theorem lines_of_not_configures {i : Instr} {w : Word} (hw : encode i = .request w) (hi : i.configures = false) :
    ∃ ls, i.lines = some (.needConfigured :: ls) ∧ opField w ≠ 0x8#4 := by
  cases i with
  | rdsr1 | rdsr2 | rdsr3 | wren | wrsr1 => cases hw
  | configure | runRecovery => cases hi
  | transferRdsr1 | transferRdsr2 | transferRdsr3 | transferWren | transferWrsr1 =>
    cases hw
    exact ⟨_, rfl, by decide⟩
  | transfer | waitReady | enableWrite | readDecode | releaseLatch | resetProtection =>
    cases hw
    exact ⟨_, rfl, by simp⟩

/-- Line 1 of the operations that need a configured bus (R110, R144). -/
theorem lineNeedConfigured_of_unconfigured (s : State) (h : s.status.configured = false) :
    lineNeedConfigured s = raise .requestRejected ErrInfo.nothing s := by
  simp [lineNeedConfigured, h]

/-- RELEASE_LATCH's line 2 refuses a second release (R200, R205). -/
theorem release_refused_run (k : Nat) (ls : List Line) (s : State) (ha : s.status.active = true) (hq : s.quiet = true)
    (hc : s.status.configured = true) (hr : s.status.latchReleased = true) (hp : s.ptr = releaseLatchLines ++ ls) :
    run (k + 2) s = raise .requestRejected ErrInfo.nothing s := by
  refine (line_run (k + 1) s { s with ptr := .needUnreleased :: .pinMode :: .markReleased :: ls } _ _ ha hq hp ?_).trans ?_
  · simp [lineEffect, lineNeedConfigured, hc, State.advance, hp, nextLines, releaseLatchLines]
  refine stop_run k _ _ .needUnreleased _ (by exact ha) (by exact quiet_of_port hq rfl) (by rfl) ?_ rfl
  simp only [lineEffect, lineNeedUnreleased, if_pos hr]
  rfl

/-- Settles O32: line 1 refuses an unconfigured bus, RELEASE_LATCH's line 2 a released latch line. -/
theorem preconditionsRefuse : Obligations.PreconditionsRefuse := by
  constructor
  · intro i w s hw hi hready hconfigured
    obtain ⟨ls, hls, hop⟩ := lines_of_not_configures hw hi
    obtain ⟨ls', hls', hexec⟩ := exec_of_encode_request i w hw
    obtain rfl : .needConfigured :: ls = ls' := Option.some.inj (hls.symm.trans hls')
    have refused := lineNeedConfigured_of_unconfigured (accept w (.needConfigured :: ls ++ [.endOk]) s) hconfigured
    rw [hexec, request_refused_at_first_line w .needConfigured ls s hready hop refused]
  · intro f s hready hconfigured hreleased
    obtain ⟨hidle, hquiet⟩ := hready
    have ran (k : Nat) := release_refused_run k [.endOk] (accept (requestWord 0x6#4 f) (releaseLatchLines ++ [.endOk]) s)
      rfl hquiet hconfigured hreleased rfl
    rw [exec_releaseLatch, request_stops 2 hidle ran (by decide), raise_requestRejected, reject_accept]
    exact ne_of_eq_of_ne (opField_requestWord 0x6#4 f) (by decide)

/-! ### ENABLE_WRITE with a clear latch -/

/-- Settles O45: the parts before the verification read are done, and line 6 ends the operation. -/
theorem enableWriteWithClearLatch : Obligations.EnableWriteWithClearLatch := by
  intro f s h e' hready hconfigured hsingle hh hcheck hclear
  obtain ⟨hidle, hquiet⟩ := hready
  obtain ⟨e₁, e₂, e₃, hfirst, hwren, hsecond, hread⟩ := hh
  obtain ⟨n, hn, ran⟩ := sequence_clear_latch [.wait h.first, .wren, .wait h.second] h.latch enableWrite_sequence [.endOk]
    (accept (requestWord 0x4#4 f) (enableWriteLines ++ [.endOk]) s) e₃ e' rfl hquiet hsingle hconfigured rfl
    ⟨e₁, hfirst, e₂, hwren, e₃, hsecond, rfl⟩ hcheck hclear hread
  have rounds : n ≤ roundLimit := by
    simp only [List.length_cons, List.length_nil, enableWriteLines, waitReadyLines, List.length_append] at hn
    unfold roundLimit
    omega
  rw [exec_enableWrite, request_stops n hidle ran rounds,
    raise_of_latOp (op := 0x4#4) _ _ (by exact opField_requestWord _ f) (by decide)]
  simp [accept, State.ended, State.latch, Result.answered, ErrKind.code, partsEvents, Part.events, Handshake.events,
    Part.stales, partsRetry, Part.retryLeft]

/-! ### READ_DECODE with a failed read -/

/-- A line whose frame fails ends the operation (R113). -/
theorem fails_run (k : Nat) (s : State) (l : Line) (ls : List Line) (f : WireFrame) (st : Word) (e' : Env)
    (hl : lineEffect l = xfer f) (hf : f.admitted = true) (ha : s.status.active = true) (hq : s.quiet = true)
    (hm : s.xferMode = .single) (hp : s.ptr = l :: ls) (he : Env.fails s.params s.latchRole f st s.env e') :
    run (k + 1) s = raise .transportError ⟨some f.opc, none, some st⟩
      { s with
        status := (s.status.stale f).dropped s.ptr
        trace := s.trace ++ [.frame f.opc f.addr f.tx f.nr st []]
        env := e' } :=
  stop_run k s _ l ls ha hq hp (by rw [hl, xfer_fails f s st e' hm hf he]) rfl

/-- READ_DECODE's line 1 on a configured bus. -/
theorem snapshot_enter_run (k : Nat) (ls : List Line) (s : State) (ha : s.status.active = true) (hq : s.quiet = true)
    (hc : s.status.configured = true) (hp : s.ptr = readDecodeLines ++ ls) :
    run (k + 1) s = run k { s with ptr := .snapRead1 :: .snapRead2 :: .snapRead3 :: .snapStore :: ls } := by
  refine line_run k s _ .needConfigured _ ha hq hp ?_
  simp [lineEffect, lineNeedConfigured, hc, State.advance, hp, nextLines, readDecodeLines]

/-- READ_DECODE's lines 1 and 2 with a first read that succeeds. -/
theorem snapshot_first_run (b : Byte) (k : Nat) (ls : List Line) (s : State) (e : Env) (ha : s.status.active = true)
    (hq : s.quiet = true) (hm : s.xferMode = .single) (hc : s.status.configured = true)
    (hp : s.ptr = readDecodeLines ++ ls) (he : Env.reads s.params s.latchRole rdsr1Frame [b] s.env e) :
    run (k + 2) s = run k
      { s with
        ptr := .snapRead2 :: .snapRead3 :: .snapStore :: ls
        env := e
        rxbuf := s.rxbuf.write 0x80 b
        locals := { s.locals with b1 := b }
        trace := s.trace ++ [readEvent 0x05#8 b] } := by
  refine (snapshot_enter_run (k + 1) ls s ha hq hc hp).trans ?_
  refine (read_run k _ .snapRead1 _ rdsr1Frame b e rfl rfl rfl (by exact ha) (by exact quiet_of_port hq rfl) (by exact hm)
    (by rfl) (by exact he)).trans ?_
  simp [Locals.keep, Status.stale, rdsr1Frame, readEvent]

/-- READ_DECODE's line 3 with a second read that succeeds. -/
theorem snapshot_second_run (b : Byte) (k : Nat) (ls : List Line) (s : State) (e : Env) (ha : s.status.active = true)
    (hq : s.quiet = true) (hm : s.xferMode = .single) (hp : s.ptr = .snapRead2 :: ls)
    (he : Env.reads s.params s.latchRole rdsr2Frame [b] s.env e) :
    run (k + 1) s = run k
      { s with
        ptr := ls
        env := e
        rxbuf := s.rxbuf.write 0x80 b
        locals := { s.locals with b2 := b }
        trace := s.trace ++ [readEvent 0x35#8 b] } := by
  refine (read_run k s .snapRead2 ls rdsr2Frame b e rfl rfl rfl ha hq hm hp he).trans ?_
  simp [Locals.keep, Status.stale, rdsr2Frame, readEvent]

/-- A read of READ_DECODE that fails drops the snapshot and ends the operation (R188). -/
theorem snapshot_fails_run (k : Nat) (s : State) (l : Line) (ls : List Line) (f : WireFrame) (st : Word) (e : Env)
    (hl : lineEffect l = xfer f) (hread : l.readsSnapshot = true) (hf : f.admitted = true)
    (ha : s.status.active = true) (hq : s.quiet = true) (hm : s.xferMode = .single) (hp : s.ptr = l :: ls)
    (he : Env.fails s.params s.latchRole f st s.env e) :
    run (k + 1) s = raise .transportError ⟨some f.opc, none, some st⟩
      { s with
        status := { s.status with snapValid := false }
        trace := s.trace ++ [.frame f.opc f.addr f.tx f.nr st []]
        env := e } := by
  refine (fails_run k s l ls f st e hl hf ha hq hm hp he).trans ?_
  simp [Status.stale, Status.dropped, hp, hread]

/-- Settles O48: the reads before the failing one succeed, and no line follows it. -/
theorem readDecodeWithFailedRead : Obligations.ReadDecodeWithFailedRead := by
  intro f s st e e₁ e₂ hready hconfigured hsingle
  obtain ⟨hidle, hquiet⟩ := hready
  refine ⟨fun h1 => ?_, fun b1 h1 h2 => ?_, fun b1 b2 h1 h2 h3 => ?_⟩
  · have ran (k : Nat) := (snapshot_enter_run (k + 1) [.endOk]
      (accept (requestWord 0x5#4 f) (readDecodeLines ++ [.endOk]) s) rfl hquiet hconfigured rfl).trans
      (snapshot_fails_run k _ .snapRead1 _ rdsr1Frame st e rfl rfl rfl (by rfl) (by exact hquiet) (by exact hsingle)
        (by rfl) (by exact h1))
    rw [exec_readDecode, request_stops 2 hidle ran (by decide),
      raise_of_latOp (op := 0x5#4) _ _ (by exact opField_requestWord _ f) (by decide)]
    rfl
  · have ran (k : Nat) := (snapshot_first_run b1 (k + 1) [.endOk]
      (accept (requestWord 0x5#4 f) (readDecodeLines ++ [.endOk]) s) e rfl hquiet hsingle hconfigured rfl h1).trans
      (snapshot_fails_run k _ .snapRead2 _ rdsr2Frame st e₁ rfl rfl rfl (by rfl) (by exact hquiet) (by exact hsingle)
        (by rfl) (by exact h2))
    rw [exec_readDecode, request_stops 3 hidle ran (by decide),
      raise_of_latOp (op := 0x5#4) _ _ (by exact opField_requestWord _ f) (by decide)]
    simp [accept, State.ended, State.latch, Result.transport, ErrKind.code, rdsr2Frame]
  · have ran (k : Nat) := ((snapshot_first_run b1 (k + 2) [.endOk]
      (accept (requestWord 0x5#4 f) (readDecodeLines ++ [.endOk]) s) e rfl hquiet hsingle hconfigured rfl h1).trans
      (snapshot_second_run b2 (k + 1) _ _ e₁ (by rfl) (by exact hquiet) (by exact hsingle) (by rfl) (by exact h2))).trans
      (snapshot_fails_run k _ .snapRead3 _ rdsr3Frame st e₂ rfl rfl rfl (by rfl) (by exact hquiet) (by exact hsingle)
        (by rfl) (by exact h3))
    rw [exec_readDecode, request_stops 4 hidle ran (by decide),
      raise_of_latOp (op := 0x5#4) _ _ (by exact opField_requestWord _ f) (by decide)]
    simp [accept, State.ended, State.latch, Result.transport, ErrKind.code, rdsr3Frame, Memory.write_write]

end Sys2Proof.Machine
end

section
/-! The wire commands and TRANSFER (SPEC 40_transport.md, R110 to R122): one frame, sent, failed or found malformed. -/
namespace Sys2Proof.Machine

open Sys2Proof.Config

/-! ### The wire commands -/

/-- The meaning of a wire command is its frame (R118 to R122). -/
theorem exec_wireCommand {i : Instr} {f : WireFrame} {v : Byte}
    (h : (i, f) ∈ [(.rdsr1, rdsr1Frame), (.rdsr2, rdsr2Frame), (.rdsr3, rdsr3Frame), (.wren, wrenFrame),
      (.wrsr1 v, wrsr1Frame v)]) (s : State) :
    exec i s = .next (xfer f s) ∧ f.admitted = true ∧ f.addr = none := by
  simp only [List.mem_cons, Prod.mk.injEq, List.not_mem_nil, or_false] at h
  obtain ⟨rfl, rfl⟩ | ⟨rfl, rfl⟩ | ⟨rfl, rfl⟩ | ⟨rfl, rfl⟩ | ⟨rfl, rfl⟩ := h <;> exact ⟨rfl, rfl, rfl⟩

/-- A read leaves the snapshot as valid as it was (R116). -/
theorem stale_of_read {f : WireFrame} (st : Status) (h : stales f.opc = false) : st.stale f = st := by
  have kept : (f.opc == 0x06#8 || f.opc == 0x01#8) = false := h
  simp [Status.stale, kept]

/-- WREN and WRSR1 stale it (R116). -/
theorem stale_of_write {f : WireFrame} (st : Status) (h : stales f.opc = true) :
    st.stale f = { st with snapValid := false } := by
  have dropped : (f.opc == 0x06#8 || f.opc == 0x01#8) = true := h
  simp [Status.stale, dropped]

/-- Settles O37: each is its frame on the bus, and only WREN and WRSR1 stale the snapshot. -/
theorem wireCommandsComplete : Obligations.WireCommandsComplete := by
  intro s b v e' hsingle
  refine ⟨fun h => ?_, fun h => ?_, fun h => ?_, fun h => ?_, fun h => ?_⟩
  · show Host.Outcome.next (xfer rdsr1Frame s) = _
    rw [xfer_reads rdsr1Frame s b e' hsingle rfl h, stale_of_read _ rfl]
    rfl
  · show Host.Outcome.next (xfer rdsr2Frame s) = _
    rw [xfer_reads rdsr2Frame s b e' hsingle rfl h, stale_of_read _ rfl]
    rfl
  · show Host.Outcome.next (xfer rdsr3Frame s) = _
    rw [xfer_reads rdsr3Frame s b e' hsingle rfl h, stale_of_read _ rfl]
    rfl
  · show Host.Outcome.next (xfer wrenFrame s) = _
    rw [xfer_acks wrenFrame s e' hsingle rfl h, stale_of_write _ rfl]
    rfl
  · show Host.Outcome.next (xfer (wrsr1Frame v) s) = _
    rw [xfer_acks (wrsr1Frame v) s e' hsingle rfl h, stale_of_write _ rfl]
    rfl

/-- An error ends the operation, and inside RUN_RECOVERY it aborts the orchestrator (R89, R234). -/
theorem raise_eq (k : ErrKind) (info : ErrInfo) (s : State) :
    raise k info s =
      { s with
        status := { s.status with active := false, orch := if s.latOp = 0x8#4 then 7#3 else s.status.orch }
        result := ⟨k.code, s.latOp, info.opc.getD 0#8, info.sr1.getD 0#8, info.opc.isSome, info.sr1.isSome⟩
        errStatus := info.status.getD s.errStatus
        trace := s.trace ++ [.done s.latOp k.code]
        ptr := []
        locals := Locals.clear } := by
  by_cases h : s.latOp = 0x8#4
  · rw [raise_recovery k info s h, if_pos h]
    rfl
  · rw [raise_plain k info s h, if_neg h]
    rfl

/-- An error inside RUN_RECOVERY (R89, R234). -/
theorem raise_of_recovery {s : State} (k : ErrKind) (info : ErrInfo) (h : s.latOp = 0x8#4) :
    raise k info s =
      { s with
        status := { s.status with active := false, orch := 7#3 }
        result := ⟨k.code, 0x8#4, info.opc.getD 0#8, info.sr1.getD 0#8, info.opc.isSome, info.sr1.isSome⟩
        errStatus := info.status.getD s.errStatus
        trace := s.trace ++ [.done 0x8#4 k.code]
        ptr := []
        locals := Locals.clear } := by
  rw [raise_eq, if_pos h, h]

/-- Settles O38: the failed frame ends the operation that sent it, and aborts the orchestrator when that is RUN_RECOVERY. -/
theorem wireCommandWithFailedFrame : Obligations.WireCommandWithFailedFrame := by
  intro i f v s st e' hi hsingle hfails
  obtain ⟨hexec, hadmitted, haddr⟩ := exec_wireCommand hi s
  rw [hexec, xfer_fails f s st e' hsingle hadmitted hfails, haddr, raise_eq, List.append_assoc]
  rfl

end Sys2Proof.Machine
end

section
/-! TRANSFER (SPEC 40_transport.md, R110 to R116; 30_encoding.md, R90, R91 and R98): the descriptor, its check, and the one frame. -/
namespace Sys2Proof.Machine

open Sys2Proof.Config

/-! ### The lines of a TRANSFER -/

/-- The request words with TRANSFER's OP run TRANSFER's lines (R86, R98). -/
theorem lines_of_opField_two {i : Instr} {w : Word} (hw : encode i = .request w) (hop : opField w = 0x2#4) :
    i.lines = some transferLines := by
  cases i with
  | rdsr1 | rdsr2 | rdsr3 | wren | wrsr1 => cases hw
  | transfer | transferRdsr1 | transferRdsr2 | transferRdsr3 | transferWren | transferWrsr1 => rfl
  | configure | waitReady | enableWrite | readDecode | releaseLatch | resetProtection | runRecovery =>
    cases hw
    rw [opField_requestWord] at hop
    exact absurd hop (by decide)

/-- A TRANSFER's meaning is its request (R110). -/
theorem exec_of_opField_two {i : Instr} {w : Word} (hw : encode i = .request w) (hop : opField w = 0x2#4) (s : State) :
    exec i s = .next (request w transferLines s) := by
  obtain ⟨ls, hls, hexec⟩ := exec_of_encode_request i w hw
  obtain rfl : transferLines = ls := Option.some.inj ((lines_of_opField_two hw hop).symm.trans hls)
  exact hexec s

/-- The descriptor of a request's fields, with its address (R110 line 2). -/
def Descriptor.ofFields (f : Fields) (addr : Option Word) : Descriptor := ⟨f.arg, addr, f.nw.toNat, f.nr.toNat⟩

/-- TRANSFER's lines 1 and 2 on a configured bus. -/
theorem descriptor_run (k : Nat) (ls : List Line) (s : State) (addr : Option Word) (e : Env) (ha : s.status.active = true)
    (hq : s.quiet = true) (hc : s.status.configured = true) (hp : s.ptr = transferLines ++ ls)
    (ho : addrOperand s.latFields s.lat.addr s.env = (addr, e)) :
    run (k + 2) s = run k
      { s with
        ptr := .xferCheck :: .xferLoad :: .xferFrame :: ls
        env := e
        locals := { s.locals with desc := Descriptor.ofFields s.latFields addr } } := by
  refine (line_run (k + 1) s { s with ptr := .xferDescriptor :: .xferCheck :: .xferLoad :: .xferFrame :: ls } .needConfigured
    _ ha hq hp ?_).trans ?_
  · simp [lineEffect, lineNeedConfigured, hc, State.advance, hp, nextLines, transferLines]
  refine line_run k _ _ .xferDescriptor _ (by exact ha) (by exact quiet_of_port hq rfl) (by rfl) ?_
  have latched : State.latFields { s with ptr := .xferDescriptor :: .xferCheck :: .xferLoad :: .xferFrame :: ls } =
    s.latFields := rfl
  simp [lineEffect, lineXferDescriptor, latched, ho, State.advance, nextLines, Descriptor.ofFields]

/-- The admitted shapes are the rows of the opcode map (R90). -/
theorem mem_opcodeMap_of_shapeOf {opc : Byte} {nw nr : Nat} (h : shapeOf opc = some (nw, nr)) :
    (opc, nw, nr) ∈ [(0x05#8, 0, 1), (0x35#8, 0, 1), (0x15#8, 0, 1), (0x06#8, 0, 0), (0x01#8, 1, 0)] := by
  have opcode (n : Nat) (hn : n < 256) (ho : opc.toNat = n) : opc = BitVec.ofNat 8 n :=
    BitVec.eq_of_toNat_eq (by rw [ho, BitVec.toNat_ofNat, Nat.mod_eq_of_lt hn])
  unfold shapeOf at h
  split at h
  case h_6 => cases h
  all_goals
    rename_i ho
    cases h
    rw [opcode _ (by decide) ho]
    decide

/-- What R111 asks of a descriptor. -/
theorem Descriptor.wf_iff (p : Params) (d : Descriptor) :
    d.wf p = true ↔
      d.nw ≤ p.maxPayload ∧ d.nr ≤ p.maxPayload ∧ d.addr = none ∧ ¬(0 < d.nw ∧ 0 < d.nr) ∧
        shapeOf d.opc = some (d.nw, d.nr) := by
  simp only [Descriptor.wf, Bool.and_eq_true, Bool.not_eq_true', decide_eq_true_eq, Option.isNone_iff_eq_none,
    Option.isSome_iff_ne_none, ← Bool.decide_and, decide_eq_false_iff_not]
  constructor
  · rintro ⟨⟨⟨⟨⟨-, hnw⟩, hnr⟩, haddr⟩, hone⟩, hshape⟩
    exact ⟨hnw, hnr, haddr, hone, hshape⟩
  · rintro ⟨hnw, hnr, haddr, hone, hshape⟩
    exact ⟨⟨⟨⟨⟨by simp [hshape], hnw⟩, hnr⟩, haddr⟩, hone⟩, hshape⟩

/-- A descriptor of the opcode map's shape with no address is well formed (R111). -/
theorem Descriptor.wf_of_shapeOf (p : Params) (opc : Byte) (nw nr : Nat) (h : shapeOf opc = some (nw, nr)) :
    Descriptor.wf p ⟨opc, none, nw, nr⟩ = true := by
  have payload : 1 ≤ p.maxPayload := Nat.le_add_left 1 _
  have row := mem_opcodeMap_of_shapeOf h
  simp only [List.mem_cons, Prod.mk.injEq, List.not_mem_nil, or_false] at row
  rw [Descriptor.wf_iff]
  exact ⟨by show nw ≤ _; omega, by show nr ≤ _; omega, rfl, by show ¬(0 < nw ∧ 0 < nr); omega, h⟩

/-- TRANSFER's lines 1 to 4 up to its frame, for a descriptor of its opcode's shape (R110). -/
theorem load_run (k : Nat) (ls : List Line) (s : State) (f : Fields) (tx : List Byte) (e : Env)
    (ha : s.status.active = true) (hq : s.quiet = true) (hc : s.status.configured = true)
    (hp : s.ptr = transferLines ++ ls) (hf : s.latFields = f) (hap : f.ap = 0#1)
    (hshape : shapeOf f.arg = some (f.nw.toNat, f.nr.toNat))
    (hload : memRead s.lat.txbuf 0x40 f.nw.toNat s.env = (tx, e)) :
    run (k + 4) s = run k
      { s with
        ptr := .xferFrame :: ls
        env := e
        locals := { s.locals with desc := Descriptor.ofFields f none, tx := tx } } := by
  subst hf
  have address : addrOperand s.latFields s.lat.addr s.env = (none, s.env) := by simp [addrOperand, hap]
  have formed : (Descriptor.ofFields s.latFields none).wf s.params = true := Descriptor.wf_of_shapeOf s.params _ _ _ hshape
  refine (descriptor_run (k + 2) ls s none s.env ha hq hc hp address).trans ?_
  refine (line_run (k + 1) _
    { s with
      ptr := .xferLoad :: .xferFrame :: ls
      locals := { s.locals with desc := Descriptor.ofFields s.latFields none } } .xferCheck _ (by exact ha)
    (by exact quiet_of_port hq rfl) (by rfl) ?_).trans ?_
  · simp [lineEffect, lineXferCheck, formed, State.advance, nextLines]
  refine line_run k _ _ .xferLoad _ (by exact ha) (by exact quiet_of_port hq rfl) (by rfl) ?_
  have read : memRead s.lat.txbuf 0x40 (Descriptor.ofFields s.latFields none).nw s.env = (tx, e) := hload
  simp [lineEffect, lineXferLoad, read, State.advance, nextLines]

/-! ### The frame -/

/-- A frame that succeeds (R113, R114). -/
theorem xfer_succeeds (f : WireFrame) (s : State) (rx : List Byte) (e' : Env) (hm : s.xferMode = .single)
    (hf : f.admitted = true) (h : busFrame s.params s.latchRole f s.env = (⟨0#32, rx⟩, e')) :
    xfer f s =
      { s with
        status := s.status.stale f
        trace := s.trace ++ [.frame f.opc f.addr f.tx f.nr 0#32 rx]
        rxbuf := s.rxbuf.writeBytes 0x80 rx
        locals := s.locals.keep s.ptr rx
        ptr := nextLines s.ptr
        env := e' } := by
  have reply : s.reply f = ⟨0#32, rx⟩ := congrArg Prod.fst h
  have after : s.envAfter f = e' := congrArg Prod.snd h
  simp [xfer, hm, hf, reply, after, afterFrame, frameDone, frameSent, frameEvent]

/-- The frame of a TRANSFER of its opcode's shape is one of the five wire commands' (R90). -/
theorem admitted_of_memRead {opc : Byte} {n nr : Nat} {tx : List Byte} {m : Memory} {i : Nat} {e e' : Env}
    (hshape : shapeOf opc = some (n, nr)) (hload : memRead m i n e = (tx, e')) :
    (⟨opc, none, tx, nr⟩ : WireFrame).admitted = true := by
  have length : tx.length = n := by
    have h := memRead_length m i n e
    rwa [hload] at h
  simp [WireFrame.admitted, hshape, length]

/-- Settles O33: the descriptor is well formed, so line 4 sends the frame, and its success is the operation's. -/
theorem transferSendsItsFrame : Obligations.TransferSendsItsFrame := by
  intro i w s f tx rx e e' hw hop hf hready hconfigured hsingle hap hshape hload hframe
  obtain ⟨hidle, hquiet⟩ := hready
  have admitted := admitted_of_memRead hshape hload
  have ran (k : Nat) := (load_run (k + 1) [.endOk] (accept w (transferLines ++ [.endOk]) s) f tx e rfl hquiet hconfigured
    rfl hf hap hshape hload).trans (line_run k _ _ .xferFrame [.endOk] (by rfl) (by exact hquiet) (by rfl)
      (xfer_succeeds ⟨f.arg, none, tx, f.nr.toNat⟩ _ rx e' (by exact hsingle) admitted (by exact hframe)))
  rw [exec_of_opField_two hw hop, request_completes 5 hidle ran (by decide) rfl (quiet_of_port hquiet rfl) rfl,
    finish_of_latOp (op := 0x2#4) (by exact hop)]
  rfl

/-- Settles O35: the same lines, and the frame fails. -/
theorem transferWithFailedFrame : Obligations.TransferWithFailedFrame := by
  intro i w s f tx st e e' hw hop hf hready hconfigured hsingle hap hshape hload hfails
  obtain ⟨hidle, hquiet⟩ := hready
  have admitted := admitted_of_memRead hshape hload
  have ran (k : Nat) := (load_run (k + 1) [.endOk] (accept w (transferLines ++ [.endOk]) s) f tx e rfl hquiet hconfigured
    rfl hf hap hshape hload).trans (stop_run k _ _ .xferFrame [.endOk] (by rfl) (by exact hquiet) (by rfl)
      (xfer_fails ⟨f.arg, none, tx, f.nr.toNat⟩ _ st e' (by exact hsingle) admitted (by exact hfails)) rfl)
  rw [exec_of_opField_two hw hop, request_stops 5 hidle ran (by decide),
    raise_of_latOp (op := 0x2#4) _ _ (by exact hop) (by decide)]
  simp [accept, State.ended, State.latch, Result.transport, ErrKind.code, Status.stale, Status.dropped, Line.readsSnapshot,
    stales]

/-! ### The pseudo rows -/

/-- A TRANSFER of one byte to read (R98, R118 to R120). -/
theorem transfer_reads {i : Instr} {w : Word} (opc : Byte) (hw : encode i = .request w) (hop : opField w = 0x2#4)
    (hf : fieldsOf w = ⟨opc, 0#1, 0#8, 1#8⟩) (hshape : shapeOf opc = some (0, 1)) (hkept : stales opc = false) (s : State)
    (b : Byte) (e' : Env) (hready : s.ready) (hconfigured : s.status.configured = true) (hsingle : s.xferMode = .single)
    (h : Env.reads s.params s.latchRole ⟨opc, none, [], 1⟩ [b] s.env e') :
    exec i s = .next
      { s.ended w (Result.success 0x2#4) [readEvent opc b] with
        rxbuf := s.rxbuf.write 0x80 b
        env := e' } := by
  obtain ⟨hreply, henv⟩ := h
  have sent := transferSendsItsFrame i w s ⟨opc, 0#1, 0#8, 1#8⟩ [] [b] s.env e' hw hop hf hready hconfigured hsingle rfl
    hshape rfl (Prod.ext hreply henv.symm)
  dsimp only at sent
  rw [hkept, Bool.not_false, Bool.and_true] at sent
  exact sent

/-- Settles O34: each is the TRANSFER of its word's fields. -/
theorem pseudoTransfersComplete : Obligations.PseudoTransfersComplete := by
  refine ⟨fun s b e' hready hconfigured hsingle => ⟨?_, ?_, ?_, fun h => ?_⟩,
    fun s v e e' hready hconfigured hsingle hload h => ?_⟩
  · exact transfer_reads 0x05#8 rfl rfl rfl rfl rfl s b e' hready hconfigured hsingle
  · exact transfer_reads 0x35#8 rfl rfl rfl rfl rfl s b e' hready hconfigured hsingle
  · exact transfer_reads 0x15#8 rfl rfl rfl rfl rfl s b e' hready hconfigured hsingle
  · have sent := transferSendsItsFrame .transferWren 0x00000062#32 s ⟨0x06#8, 0#1, 0#8, 0#8⟩ [] [] s.env e' rfl rfl rfl
      hready hconfigured hsingle rfl rfl rfl h
    dsimp only at sent
    rw [show stales 0x06#8 = true from rfl, Bool.not_true, Bool.and_false] at sent
    exact sent
  · have load : memRead s.txbuf 0x40 1 s.env = ([v], e) := by simp [memRead, hload]
    have sent := transferSendsItsFrame .transferWrsr1 0x00002012#32 s ⟨0x01#8, 0#1, 1#8, 0#8⟩ [v] [] e e' rfl rfl rfl
      hready hconfigured hsingle rfl rfl load h
    dsimp only at sent
    rw [show stales 0x01#8 = true from rfl, Bool.not_true, Bool.and_false] at sent
    exact sent

/-! ### Malformed descriptors -/

/-- Each of R111's cases makes the descriptor malformed. -/
theorem not_wf_of_malformed (p : Params) (f : Fields) (r : HostReg) (e : Env)
    (h : f.arg ∉ [0x05#8, 0x35#8, 0x15#8, 0x06#8, 0x01#8] ∨ p.maxPayload < f.nw.toNat ∨ p.maxPayload < f.nr.toNat ∨
      f.ap = 1#1 ∨ (0 < f.nw.toNat ∧ 0 < f.nr.toNat) ∨
      (f.arg, f.nw, f.nr) ∉ [(0x05#8, 0#8, 1#8), (0x35#8, 0#8, 1#8), (0x15#8, 0#8, 1#8), (0x06#8, 0#8, 0#8),
        (0x01#8, 1#8, 0#8)]) :
    ¬(Descriptor.ofFields f (addrOperand f r e).1).wf p = true := by
  intro hwf
  obtain ⟨hnw, hnr, haddr, hone, hshape⟩ := (Descriptor.wf_iff p _).mp hwf
  have row := mem_opcodeMap_of_shapeOf hshape
  simp only [Descriptor.ofFields, List.mem_cons, Prod.mk.injEq, List.not_mem_nil, or_false] at hnw hnr haddr hone row
  obtain h | h | h | h | h | h := h
  · simp only [List.mem_cons, List.not_mem_nil, or_false] at h
    exact h (by tauto)
  · omega
  · omega
  · simp [addrOperand, h] at haddr
  · exact hone h
  · refine h ?_
    have byte (x : Byte) (n : Nat) (hn : n < 256) (hx : x.toNat = n) : x = BitVec.ofNat 8 n :=
      BitVec.eq_of_toNat_eq (by rw [hx, BitVec.toNat_ofNat, Nat.mod_eq_of_lt hn])
    obtain ⟨harg, hw, hr⟩ | ⟨harg, hw, hr⟩ | ⟨harg, hw, hr⟩ | ⟨harg, hw, hr⟩ | ⟨harg, hw, hr⟩ := row <;>
      rw [harg, byte f.nw _ (by decide) hw, byte f.nr _ (by decide) hr] <;> decide

/-- TRANSFER's lines 1 to 3 with a malformed descriptor (R111). -/
theorem malformed_run (k : Nat) (ls : List Line) (s : State) (addr : Option Word) (e : Env) (ha : s.status.active = true)
    (hq : s.quiet = true) (hc : s.status.configured = true) (hp : s.ptr = transferLines ++ ls)
    (ho : addrOperand s.latFields s.lat.addr s.env = (addr, e))
    (hd : ¬(Descriptor.ofFields s.latFields addr).wf s.params = true) :
    run (k + 3) s = raise .transportError ⟨some s.latFields.arg, none, some malformedStatus⟩ { s with env := e } := by
  refine (descriptor_run (k + 1) ls s addr e ha hq hc hp ho).trans ?_
  refine stop_run k _ _ .xferCheck _ (by exact ha) (by exact quiet_of_port hq rfl) (by rfl) ?_ rfl
  simp only [lineEffect, lineXferCheck, if_neg hd]
  rfl -- the two states differ in their pointer and locals alone, which `raise` clears

/-- Settles O36: line 3 finds the descriptor malformed, and no line sends a frame. -/
theorem malformedTransferSendsNothing : Obligations.MalformedTransferSendsNothing := by
  intro i w s f hw hop hf hready hconfigured hmalformed
  subst hf
  obtain ⟨hidle, hquiet⟩ := hready
  have malformed := not_wf_of_malformed s.params (fieldsOf w) s.addr s.env hmalformed
  have ran (k : Nat) := malformed_run k [.endOk] (accept w (transferLines ++ [.endOk]) s) _ _ rfl hquiet hconfigured rfl
    rfl malformed
  have operand : (addrOperand (fieldsOf w) s.addr s.env).2 =
      if (fieldsOf w).ap = 1#1 then (readOperand s.addr s.env).2 else s.env := by
    unfold addrOperand
    split <;> rfl
  rw [exec_of_opField_two hw hop, request_stops 3 hidle ran (by decide),
    raise_of_latOp (op := 0x2#4) _ _ (by exact hop) (by decide), ← operand]
  simp only [State.ended, List.append_nil]
  rfl

end Sys2Proof.Machine
end

section
/-! RUN_RECOVERY (SPEC 47_orchestrator.md, R231 to R239): its refusal, its scenario C, and the whole of its lines. -/
namespace Sys2Proof.Machine

open Sys2Proof.Config

/-! ### Requests that end early -/

/-- Settles O54: line 1 refuses, and a refusal aborts nothing. -/
theorem runRecoveryNeedsFreshState : Obligations.RunRecoveryNeedsFreshState := by
  intro f s hready hstale
  obtain ⟨hidle, hquiet⟩ := hready
  have refused (k : Nat) := stop_run k (accept (requestWord 0x8#4 f) (runRecoveryLines ++ [.endOk]) s) _ .needFresh _ rfl
    hquiet rfl (if_pos hstale) rfl
  rw [exec_runRecovery, request_stops 1 hidle refused (by decide), reject_accept]

/-- RUN_RECOVERY's lines 1 and 2 from the fresh state with a format that is not legal (R243). -/
theorem recovery_misconfigured_run (k : Nat) (ls : List Line) (s : State) (freq cst : Word) (e e' : Env)
    (ha : s.status.active = true) (hq : s.quiet = true) (ho : s.status.orch = 0#3) (hc : s.status.configured = false)
    (hp : s.ptr = .needFresh :: (configureLines ++ ls)) (hf : readOperand s.lat.freq s.env = (freq, e))
    (ht : transportConfigure s.params s.awOperand freq e = (cst, e')) (hcst : cst ≠ 0#32) :
    run (k + 6) s = raise .configurationFailure ⟨none, none, some cst⟩
      { s with env := e', trace := s.trace ++ [.cfg s.awOperand freq false] } := by
  have fresh : lineEffect .needFresh s = { s with ptr := configureLines ++ ls } := by
    refine (lineNeedFresh_of_fresh s ho hc).trans ?_
    simp [State.advance, hp, nextLines]
  refine (line_run (k + 5) s _ .needFresh _ ha hq hp fresh).trans ?_
  exact configure_fails_run k ls { s with ptr := configureLines ++ ls } freq cst e e' ha (quiet_of_port hq rfl) hc rfl hf ht
    hcst

/-- Settles O55: CONFIGURE's line 5 ends the recovery before its first frame. -/
theorem runRecoveryWithIllegalFormatAborts : Obligations.RunRecoveryWithIllegalFormatAborts := by
  intro f s freq cst e e' hready horch hconfigured hfreq htransport hillegal
  obtain ⟨hidle, hquiet⟩ := hready
  have refused : cst ≠ 0#32 := ne_zero_of_transportConfigure htransport hillegal
  have aw_operand := awOperand_accept_requestWord 0x8#4 f (runRecoveryLines ++ [.endOk]) s
  have ran (k : Nat) := recovery_misconfigured_run k _ (accept (requestWord 0x8#4 f) (runRecoveryLines ++ [.endOk]) s) freq
    cst e e' rfl hquiet horch hconfigured rfl hfreq (by rw [aw_operand]; exact htransport) refused
  refine ⟨refused, ?_⟩
  rw [exec_runRecovery, request_stops 6 hidle ran (by decide), raise_of_recovery _ _ (by exact opField_requestWord _ f),
    aw_operand]
  rfl

/-! ### The lines of a recovery that goes on -/

/-- `set(o)` of an o that does not end the recovery (R232). -/
theorem set_orch_run (o : Orch) (k : Nat) (ls : List Line) (s : State) (ho : o.terminal = false)
    (ha : s.status.active = true) (hq : s.quiet = true) (hp : s.ptr = .setOrch o :: ls) :
    run (k + 1) s = run k { s with ptr := ls, status := { s.status with orch := o.value, stage := o.value } } := by
  refine line_run k s _ _ _ ha hq hp ?_
  simp [lineEffect, lineSetOrch, State.setOrch, Status.setOrch, ho, State.advance, nextLines, hp]

/-- What RUN_RECOVERY's lines 1 to 6 leave of s, with ls still to run: the bus is configured and the latch line released (R232). -/
def State.released (s : State) (w : ReadyWait) (freq : Word) (e : Env) (ls : List Line) : State :=
  { s with
    ptr := ls
    status := { s.status with configured := true, latchReleased := true, orch := 2#3, stage := 2#3 }
    cfg := ⟨s.awOperand.setWidth 8, freq⟩
    xferMode := .single
    env := e
    rxbuf := s.rxbuf.write 0x80 w.ready
    retry := w.retryLeft
    lineRole := s.lineRole.set .passiveIn s.params.latchLine.line
    pinCalls := s.pinCalls ++ [(s.params.lineIds.data s.params.latchLine.line, .passiveIn)]
    locals := { s.locals with aw := s.awOperand, freq := freq, cst := 0#32, sr1 := w.ready }
    trace := s.trace ++ ([.cfg s.awOperand freq true] ++ w.events ++ [.pin s.params.latchLine.line .passiveIn]) }

/-- The responder then finds the latch line passive (R201). -/
theorem released_latchRole (s : State) (w : ReadyWait) (freq : Word) (e : Env) (ls : List Line) :
    (s.released w freq e ls).latchRole = .passiveIn :=
  LineRoles.get_set_same _ _ _

/-- RUN_RECOVERY's lines 1 to 6 from the fresh state, with a legal format and a first wait that succeeds (R232). -/
theorem recovery_released_run (w : ReadyWait) (k : Nat) (ls : List Line) (s : State) (freq : Word) (e e₁ : Env)
    (ha : s.status.active = true) (hq : s.quiet = true) (ho : s.status.orch = 0#3) (hc : s.status.configured = false)
    (hr : s.status.latchReleased = false)
    (hp : s.ptr = .needFresh :: (configureLines ++ .setOrch .busConfigured :: (waitReadyLines ++ (releaseLatchLines ++
      .setOrch .latchReleased :: ls))))
    (hf : readOperand s.lat.freq s.env = (freq, e)) (haw : s.params.legalAw.admits s.awOperand = true)
    (hfr : s.params.legalFreq.contains freq = true) (hw : w.holds s.params s.latchRole e e₁) :
    run (k + (5 * w.busyOnes.length + 17)) s = run k (s.released w freq e₁ ls) := by
  rw [show k + (5 * w.busyOnes.length + 17) = (k + 1 + 4 + (5 * w.busyOnes.length + 4)) + 8 by omega]
  refine (recovery_configured_run _ _ s freq e ha hq ho hc hp hf haw hfr).trans ?_
  refine (wait_run w (k + 1 + 4) (releaseLatchLines ++ .setOrch .latchReleased :: ls) _ e₁ (by exact ha)
    (by exact quiet_of_port hq rfl) (by rfl) (by rfl) (by rfl) (by exact hw)).trans ?_
  refine (release_run (k + 1) (.setOrch .latchReleased :: ls) _ (by exact ha) (by exact quiet_of_port hq rfl) (by rfl)
    (by exact hr) (by rfl)).trans ?_
  refine (set_orch_run .latchReleased k ls _ rfl (by exact ha) (by exact quiet_of_port hq rfl) (by rfl)).trans ?_
  simp [Orch.value, State.released]

/-- RUN_RECOVERY's lines 7 to 11 with a released latch line and answers that succeed (R232). -/
theorem recovery_snapshot_run (h : Handshake) (c : Clearing) (b : Triple) (ls : List Line) (s : State)
    (e₁ e₂ e' : Env) (ha : s.status.active = true) (hq : s.quiet = true) (hm : s.xferMode = .single)
    (hc : s.status.configured = true)
    (hp : s.ptr = enableWriteLines ++ .setOrch .writeEnabledOnce :: (resetProtectionLines ++ .setOrch .protectionCleared ::
      (readDecodeLines ++ ls)))
    (hh : h.holds s.params s.latchRole s.env e₁) (hl : h.latched s.params) (hcl : c.holds s.params s.latchRole e₁ e₂)
    (hl' : c.enable.latched s.params) (hb : b.holds s.params s.latchRole e₂ e') :
    ∃ n ≤ 400000, ∀ k, run (k + n) s = run k
      { s with
        ptr := ls
        status := { s.status with snapValid := true, orch := 4#3, stage := 4#3 }
        env := e'
        rxbuf := s.rxbuf.write 0x80 b.b3
        retry := c.last.retryLeft
        snap := ⟨b.b1, b.b2, b.b3, true⟩
        locals := { s.locals with sr1 := c.last.ready, b1 := b.b1, b2 := b.b2, b3 := b.b3 }
        trace := s.trace ++ (h.events ++ c.events ++ b.events) } := by
  obtain ⟨first, second⟩ := hh.short
  obtain ⟨wait, third, fourth, last⟩ := hcl.short
  refine ⟨5 + 1 + (5 * c.first.busyOnes.length + 5 * c.enable.first.busyOnes.length + 5 * c.enable.second.busyOnes.length +
    5 * c.last.busyOnes.length + 22) + 1 + (5 * h.first.busyOnes.length + 5 * h.second.busyOnes.length + 12), by omega,
    fun k => ?_⟩
  simp only [← Nat.add_assoc k]
  refine (handshake_run h _ _ s e₁ ha hq hm hc hp hh hl).trans ?_
  refine (set_orch_run .writeEnabledOnce _ (resetProtectionLines ++ .setOrch .protectionCleared :: (readDecodeLines ++ ls)) _
    rfl (by exact ha) (by exact quiet_of_port hq rfl) (by rfl)).trans ?_
  refine (clearing_run c _ (.setOrch .protectionCleared :: (readDecodeLines ++ ls)) _ e₂ (by exact ha)
    (by exact quiet_of_port hq rfl) (by exact hm) (by exact hc) (by rfl) (by exact hcl) (by exact hl')).trans ?_
  refine (set_orch_run .protectionCleared _ (readDecodeLines ++ ls) _ rfl (by exact ha) (by exact quiet_of_port hq rfl)
    (by rfl)).trans ?_
  refine (triple_run b k ls _ e' (by exact ha) (by exact quiet_of_port hq rfl) (by exact hm) (by exact hc) (by rfl)
    (by exact hb)).trans ?_
  simp [Memory.write_write, Orch.value]

/-- RUN_RECOVERY's lines after the release. -/
def afterReleaseLines : List Line :=
  enableWriteLines ++ .setOrch .writeEnabledOnce :: (resetProtectionLines ++ .setOrch .protectionCleared ::
    (readDecodeLines ++ [.verifyCleared, .setOrch .verified, .endOk]))

/-- RUN_RECOVERY up to its last check, when every answer succeeds (R232). -/
theorem recovery_verified_run (r : Recovery) (s : State) (freq : Word) (e e' : Env)
    (ha : s.status.active = true) (hq : s.quiet = true) (ho : s.status.orch = 0#3) (hc : s.status.configured = false)
    (hr : s.status.latchReleased = false) (hp : s.ptr = runRecoveryLines ++ [.endOk])
    (hf : readOperand s.lat.freq s.env = (freq, e)) (haw : s.params.legalAw.admits s.awOperand = true)
    (hfr : s.params.legalFreq.contains freq = true) (h : r.holds s.params s.latchRole e e')
    (hl : r.enable.latched s.params) (hl' : r.clearing.enable.latched s.params) :
    ∃ n ≤ 500000, ∀ k, run (k + n) s = run k
      { s with
        ptr := [.verifyCleared, .setOrch .verified, .endOk]
        status := { s.status with configured := true, latchReleased := true, snapValid := true, orch := 4#3, stage := 4#3 }
        cfg := ⟨s.awOperand.setWidth 8, freq⟩
        xferMode := .single
        env := e'
        rxbuf := s.rxbuf.write 0x80 r.snapshot.b3
        retry := r.clearing.last.retryLeft
        lineRole := s.lineRole.set .passiveIn s.params.latchLine.line
        pinCalls := s.pinCalls ++ [(s.params.lineIds.data s.params.latchLine.line, .passiveIn)]
        snap := ⟨r.snapshot.b1, r.snapshot.b2, r.snapshot.b3, true⟩
        locals :=
          { s.locals with
            aw := s.awOperand
            freq := freq
            cst := 0#32
            sr1 := r.clearing.last.ready
            b1 := r.snapshot.b1
            b2 := r.snapshot.b2
            b3 := r.snapshot.b3 }
        trace := s.trace ++ ([.cfg s.awOperand freq true] ++ r.events s.params) } := by
  obtain ⟨e₁, e₂, e₃, hwait, henable, hclearing, hsnapshot⟩ := h
  have short := hwait.short
  have role := released_latchRole s r.wait freq e₁ afterReleaseLines
  obtain ⟨n, hn, ran⟩ := recovery_snapshot_run r.enable r.clearing r.snapshot [.verifyCleared, .setOrch .verified, .endOk]
    (s.released r.wait freq e₁ afterReleaseLines) e₂ e₃ e' ha (quiet_of_port hq rfl) rfl rfl rfl (by rw [role]; exact henable)
    hl (by rw [role]; exact hclearing) hl' (by rw [role]; exact hsnapshot)
  refine ⟨n + (5 * r.wait.busyOnes.length + 17), by omega, fun k => ?_⟩
  rw [← Nat.add_assoc, recovery_released_run r.wait (k + n) afterReleaseLines s freq e e₁ ha hq ho hc hr hp hf haw hfr hwait,
    ran]
  simp [State.released, Memory.write_write, Recovery.events]

/-- Settles O52: the last check passes, and the orchestrator is Verified. -/
theorem runRecoveryReachesVerified : Obligations.RunRecoveryReachesVerified := by
  intro f s r freq e e' hready horch hconfigured hreleased hfreq haw hlegal hr hlatched hlatched' hcleared
  obtain ⟨hidle, hquiet⟩ := hready
  have aw_operand := awOperand_accept_requestWord 0x8#4 f (runRecoveryLines ++ [.endOk]) s
  obtain ⟨n, hn, ran⟩ := recovery_verified_run r (accept (requestWord 0x8#4 f) (runRecoveryLines ++ [.endOk]) s) freq
    e e' rfl hquiet horch hconfigured hreleased rfl hfreq (by rwa [aw_operand]) hlegal hr hlatched hlatched'
  have passes (u : State) (hparams : u.params = s.params) (hsnap : u.snap.sr1 = r.snapshot.b1) :
      lineVerifyCleared u = u.advance := by
    refine if_neg ?_
    rw [hparams, hsnap, Bool.and_eq_true]
    rintro ⟨hcheck, hset⟩
    exact absurd ((hcleared hcheck).symm.trans hset) nofun
  have verified (k : Nat) := (((congrArg (run · _) (Nat.add_assoc k 2 n).symm).trans (ran (k + 2))).trans (line_run (k + 1) _ _ .verifyCleared _ (by rfl) (by exact hquiet)
    (by rfl) (passes _ (by rfl) (by rfl)))).trans (line_run k _ _ (.setOrch .verified) _ (by rfl) (by exact hquiet)
    (by rfl) (by rfl))
  rw [exec_runRecovery, request_completes (2 + n) hidle verified (by unfold roundLimit; omega) rfl
    (quiet_of_port hquiet rfl) rfl, finish_of_latOp (op := 0x8#4) (by exact opField_requestWord _ f), aw_operand,
    setWidth_byte_word]
  rfl

/-- Settles O53: the last check ends the recovery. -/
theorem runRecoveryFindsProtectionStillSet : Obligations.RunRecoveryFindsProtectionStillSet := by
  intro f s r freq e e' hready horch hconfigured hreleased hfreq haw hlegal hr hlatched hlatched' hcheck hset
  obtain ⟨hidle, hquiet⟩ := hready
  have aw_operand := awOperand_accept_requestWord 0x8#4 f (runRecoveryLines ++ [.endOk]) s
  obtain ⟨n, hn, ran⟩ := recovery_verified_run r (accept (requestWord 0x8#4 f) (runRecoveryLines ++ [.endOk]) s) freq
    e e' rfl hquiet horch hconfigured hreleased rfl hfreq (by rwa [aw_operand]) hlegal hr hlatched hlatched'
  have raises (u : State) (hparams : u.params = s.params) (hsnap : u.snap.sr1 = r.snapshot.b1) :
      lineVerifyCleared u = raise .protectionStillSet ⟨none, some r.snapshot.b1, none⟩ u := by
    rw [← hsnap]
    refine if_pos ?_
    rw [hparams, hsnap, hcheck, hset]
    rfl
  have stopped (k : Nat) := ((congrArg (run · _) (Nat.add_assoc k 1 n).symm).trans (ran (k + 1))).trans (stop_run k _ _ .verifyCleared _ (by rfl) (by exact hquiet) (by rfl)
    (raises _ (by rfl) (by rfl)) rfl)
  rw [exec_runRecovery, request_stops (1 + n) hidle stopped (by unfold roundLimit; omega),
    raise_of_recovery _ _ (by exact opField_requestWord _ f), aw_operand, setWidth_byte_word]
  rfl

end Sys2Proof.Machine
end

section
/-! The write sequences that stop midway (SPEC 43_write_enable.md, R165 to R170; 46_protection_reset.md, R215 to R223;
47_orchestrator.md, R234 and R235): a wait that times out, or a clear latch, at whichever part it is. -/
namespace Sys2Proof.Machine

open Sys2Proof.Config

/-! ### Parts -/

theorem partsHold_append {p : Params} {l : LineRole} {xs ys : List Part} {e e' : Env} :
    partsHold p l (xs ++ ys) e e' ↔ ∃ e₁, partsHold p l xs e e₁ ∧ partsHold p l ys e₁ e' := by
  induction xs generalizing e with
  | nil => simp [partsHold]
  | cons x xs ih =>
    simp only [List.cons_append, partsHold, ih]
    constructor
    · rintro ⟨e₁, hx, e₂, hxs, hys⟩
      exact ⟨e₂, ⟨e₁, hx, hxs⟩, hys⟩
    · rintro ⟨e₂, ⟨e₁, hx, hxs⟩, hys⟩
      exact ⟨e₁, hx, e₂, hxs, hys⟩

/-- The part that two sequences one after the other stop at belongs to the first or to the second. -/
theorem parts_split {xs : List Part} {x : PartKind} {rest ks js : List PartKind}
    (h : xs.map Part.kind ++ x :: rest = ks ++ js) :
    (∃ rest', xs.map Part.kind ++ x :: rest' = ks) ∨
      ∃ ys zs, xs = ys ++ zs ∧ ys.map Part.kind = ks ∧ zs.map Part.kind ++ x :: rest = js := by
  obtain ⟨more, hks, hrest⟩ | ⟨more, hxs, hjs⟩ := List.append_eq_append_iff.mp h
  · cases more with
    | nil =>
      refine .inr ⟨xs, [], (List.append_nil xs).symm, ?_, ?_⟩
      · rw [hks, List.append_nil]
      · exact hrest
    | cons y more =>
      obtain ⟨rfl, -⟩ := List.cons.inj hrest
      exact .inl ⟨more, hks.symm⟩
  · obtain ⟨ys, zs, rfl, hys, hzs⟩ := List.map_eq_append_iff.mp hxs
    exact .inr ⟨ys, zs, rfl, hys, by rw [hzs, hjs]⟩

/-- Elements of a list that are not x come before its first x. -/
theorem mem_of_append_cons_eq {α : Type} {ks rest pre more : List α} {x y : α} (h : ks ++ x :: rest = pre ++ more)
    (hx : x ∉ pre) (hy : y ∈ pre) : y ∈ ks := by
  obtain ⟨as, hpre, hrest⟩ | ⟨cs, hks, -⟩ := List.append_eq_append_iff.mp h
  · cases as with
    | nil => rwa [hpre, List.append_nil] at hy
    | cons a as =>
      obtain ⟨rfl, -⟩ := List.cons.inj hrest
      exact absurd (hpre ▸ List.mem_append_right _ List.mem_cons_self) hx
  · rw [hks]
    exact List.mem_append_left _ hy

/-- A WREN that was done has staled the snapshot (R116). -/
theorem any_stales_of_wren {xs : List Part} (h : PartKind.wren ∈ xs.map Part.kind) : xs.any Part.stales = true := by
  obtain ⟨x, hx, hkind⟩ := List.mem_map.mp h
  refine List.any_eq_true.mpr ⟨x, hx, ?_⟩
  cases x with
  | wren => rfl
  | wait | latch | clear => cases hkind

/-! ### ENABLE_WRITE and RESET_PROTECTION -/

/-- A write sequence of its own whose wait times out (R170, R220). -/
theorem sequence_request_timeout {op : BitVec 4} {i : Instr} {f : Fields} {kinds rest : List PartKind} {ls : List Line}
    {s : State} {done : List Part} {bs : List Byte} {b : Byte} {e e' : Env} (hseq : Sequence kinds ls)
    (hexec : exec i s = .next (request (requestWord op f) ls s)) (hop : op ≠ 0x8#4) (hshort : ls.length ≤ 30)
    (hkinds : kinds.length ≤ 10) (hready : s.ready) (hconfigured : s.status.configured = true)
    (hsingle : s.xferMode = .single) (hsplit : done.map Part.kind ++ .wait :: rest = kinds)
    (hdone : partsHold s.params s.latchRole done s.env e) (hlen : bs.length = 9999) (hbusy : ∀ x ∈ bs ++ [b], busy x = true)
    (hreads : Env.reads s.params s.latchRole rdsr1Frame (bs ++ [b]) e e') :
    exec i s = .next
      { s.ended (requestWord op f) (Result.answered op 0x2#4 b)
          (partsEvents done ++ busyPolls bs ++ [readEvent 0x05#8 b]) with
        status :=
          { s.status with active := false, ovr := false, snapValid := s.status.snapValid && !done.any Part.stales }
        rxbuf := s.rxbuf.write 0x80 b
        retry := 0#14
        env := e' } := by
  obtain ⟨hidle, hquiet⟩ := hready
  subst hsplit
  obtain ⟨n, hn, ran⟩ := sequence_timeout done bs b hseq [.endOk] (accept (requestWord op f) (ls ++ [.endOk]) s) e e' rfl
    hquiet hsingle hconfigured rfl hdone hlen hbusy hreads
  rw [List.length_append, List.length_map, List.length_cons] at hkinds
  rw [hexec, request_stops n hidle ran (by unfold roundLimit; omega),
    raise_of_latOp (op := op) _ _ (by exact opField_requestWord _ f) hop]
  simp [accept, State.ended, State.latch, Result.answered, ErrKind.code]

/-! ### RUN_RECOVERY -/

/-- What RUN_RECOVERY's parts xs leave after its latch line is released: ORCH and STAGE tell the write sequence they are in
(R235). -/
def State.midway (s : State) (xs : List Part) (ls : List Line) (e : Env) : State :=
  { s.afterParts xs ls e with
    status :=
      { s.status with
        snapValid := s.status.snapValid && !xs.any Part.stales
        orch := stageAfterParts xs.length
        stage := stageAfterParts xs.length } }

/-- Any part of RUN_RECOVERY's two write sequences is reached, once those before it are done (R232). -/
theorem recovery_reaches {x : PartKind} {rest : List PartKind} (xs : List Part) (ls : List Line) (s : State) (e' : Env)
    (ha : s.status.active = true) (hq : s.quiet = true) (hm : s.xferMode = .single) (hc : s.status.configured = true)
    (ho : s.status.orch = 2#3) (hs : s.status.stage = 2#3)
    (hp : s.ptr = enableWriteLines ++ .setOrch .writeEnabledOnce :: (resetProtectionLines ++ ls))
    (hk : xs.map Part.kind ++ x :: rest = enableWriteParts ++ resetProtectionParts)
    (hx : partsHold s.params s.latchRole xs s.env e') :
    ∃ n ls', n ≤ 600000 ∧ ∀ k, run (k + n) s = run k (s.midway xs (x.lines ++ ls') e') := by
  have few : xs.length ≤ 10 := by
    have h := congrArg List.length hk
    simp [enableWriteParts, resetProtectionParts] at h
    omega
  obtain ⟨rest', hfirst⟩ | ⟨ys, zs, rfl, hys, hzs⟩ := parts_split hk
  · have early : xs.length < 4 := by
      have h := congrArg List.length hfirst
      simp [enableWriteParts] at h
      omega
    obtain ⟨n, ls', hn, ran⟩ := sequence_reaches xs (hfirst ▸ enableWrite_sequence) _ s e' ha hq hm hc hp hx
    refine ⟨n, ls', ?_, fun k => ?_⟩
    · simp only [enableWriteLines, waitReadyLines, List.length_append, List.length_cons, List.length_nil] at hn
      omega
    · rw [ran k, State.midway, stageAfterParts, if_pos early]
      simp only [State.afterParts, ho, hs]
  · obtain ⟨e₁, hfirst, hsecond⟩ := partsHold_append.mp hx
    have late : ¬(ys ++ zs).length < 4 := by
      have h := congrArg List.length hys
      simp [enableWriteParts] at h
      simp only [List.length_append]
      omega
    obtain ⟨m, hm', ran⟩ := sequence_done ys (hys ▸ enableWrite_sequence) _ s e₁ ha hq hm hc hp hfirst
    have entered (k : Nat) := (ran (k + 1)).trans (set_orch_run .writeEnabledOnce k (resetProtectionLines ++ ls) _ rfl
      (by exact ha) (by exact quiet_of_port hq rfl) (by rfl))
    obtain ⟨n, ls', hn, ran'⟩ := sequence_reaches zs (hzs ▸ resetProtection_sequence) ls
      { s.afterParts ys (resetProtectionLines ++ ls) e₁ with
        status := { s.status with snapValid := s.status.snapValid && !ys.any Part.stales, orch := 3#3, stage := 3#3 } } e' ha
      (quiet_of_port hq rfl) hm hc rfl hsecond
    refine ⟨n + 1 + m, ls', ?_, fun k => ?_⟩
    · simp only [enableWriteLines, resetProtectionLines, waitReadyLines, List.length_append, List.length_cons,
        List.length_nil] at hn hm' few
      omega
    · rw [← Nat.add_assoc, ← Nat.add_assoc, entered]
      refine Eq.trans ?_ ((ran' k).trans ?_)
      · rfl
      · rw [State.midway, stageAfterParts, if_neg late]
        simp [State.afterParts, partsRetry, partsEvents, Bool.and_assoc]

/-- A RUN_RECOVERY from the fresh state with a legal format and a first wait that succeeds reaches any part of its write
sequences, once those before it are done. -/
theorem recovery_request_reaches {x : PartKind} {rest : List PartKind} (f : Fields) (s : State) (freq : Word) (wait : ReadyWait)
    (done : List Part) (e e₁ e₂ : Env) (hq : s.quiet = true) (ho : s.status.orch = 0#3) (hc : s.status.configured = false)
    (hr : s.status.latchReleased = false) (hf : readOperand s.freq s.env = (freq, e))
    (haw : s.params.legalAw.admits (f.arg.setWidth 32) = true) (hfr : s.params.legalFreq.contains freq = true)
    (hw : wait.holds s.params s.latchRole e e₁)
    (hk : done.map Part.kind ++ x :: rest = enableWriteParts ++ resetProtectionParts)
    (hx : partsHold s.params .passiveIn done e₁ e₂) :
    ∃ n ls', n ≤ 700000 ∧ ∀ k, run (k + n) (accept (requestWord 0x8#4 f) (runRecoveryLines ++ [.endOk]) s) = run k
      (((accept (requestWord 0x8#4 f) (runRecoveryLines ++ [.endOk]) s).released wait freq e₁ afterReleaseLines).midway done
        (x.lines ++ ls') e₂) := by
  have short := hw.short
  have aw_operand := awOperand_accept_requestWord 0x8#4 f (runRecoveryLines ++ [.endOk]) s
  generalize hu : accept (requestWord 0x8#4 f) (runRecoveryLines ++ [.endOk]) s = u at aw_operand
  have role := released_latchRole u wait freq e₁ afterReleaseLines
  have released (k : Nat) : run (k + (5 * wait.busyOnes.length + 17)) u = run k (u.released wait freq e₁ afterReleaseLines) := by
    subst hu
    exact recovery_released_run wait k afterReleaseLines _ freq e e₁ rfl hq ho hc hr rfl hf (by rwa [aw_operand]) hfr hw
  obtain ⟨n, ls', hn, ran⟩ := recovery_reaches done _ (u.released wait freq e₁ afterReleaseLines) e₂ (by subst hu; rfl)
    (by subst hu; exact hq) rfl rfl rfl rfl rfl hk (by rw [role]; subst hu; exact hx)
  exact ⟨n + (5 * wait.busyOnes.length + 17), ls', by omega, fun k => by rw [← Nat.add_assoc, released, ran]⟩

/-- Settles O59: the wait of the sequence is reached, and its timeout ends the request. -/
theorem sequencesStopAtTimeout : Obligations.SequencesStopAtTimeout := by
  constructor
  · intro f s op i kinds rest done bs b e e' hop hready hconfigured hsingle hsplit hdone hlen hbusy hreads
    simp only [List.mem_cons, Prod.mk.injEq, List.not_mem_nil, or_false] at hop
    obtain ⟨rfl, rfl, rfl⟩ | ⟨rfl, rfl, rfl⟩ := hop
    · exact sequence_request_timeout enableWrite_sequence (exec_enableWrite f s) (by decide) (by decide) (by decide) hready
        hconfigured hsingle hsplit hdone hlen hbusy hreads
    · exact sequence_request_timeout resetProtection_sequence (exec_resetProtection f s) (by decide) (by decide) (by decide)
        hready hconfigured hsingle hsplit hdone hlen hbusy hreads
  · intro f s freq wait rest done bs b e e₁ e₂ e' hready horch hconfigured hreleased hfreq haw hlegal hwait hsplit hdone hlen
      hbusy hreads
    obtain ⟨hidle, hquiet⟩ := hready
    obtain ⟨n, ls', hn, ran⟩ := recovery_request_reaches f s freq wait done e e₁ e₂ hquiet horch hconfigured hreleased hfreq
      haw hlegal hwait hsplit hdone
    have role := released_latchRole (accept (requestWord 0x8#4 f) (runRecoveryLines ++ [.endOk]) s) wait freq e₁
      afterReleaseLines
    have stopped (k : Nat) := ((congrArg (run · _) (Nat.add_assoc k (5 * bs.length + 6) n).symm).trans
      (ran (k + (5 * bs.length + 6)))).trans (timeout_run bs b k ls' _ e' (by rfl) (by exact hquiet) (by rfl) (by rfl) (by rfl)
        hlen hbusy (by exact role.symm ▸ hreads))
    rw [exec_runRecovery, request_stops _ hidle stopped (by unfold roundLimit; omega),
      raise_of_recovery _ _ (by exact opField_requestWord _ f)]
    simp only [State.midway, State.afterParts, State.released, State.ended, answers_write, Memory.write_write,
      awOperand_accept_requestWord, setWidth_byte_word, List.append_assoc]
    rfl

/-- Settles O60: the verification read is reached after a WREN, and the clear latch ends the request. -/
theorem sequencesStopAtClearLatch : Obligations.SequencesStopAtClearLatch := by
  constructor
  · intro f s rest done b e e' hready hconfigured hsingle hsplit hdone hreads hcheck hclear
    obtain ⟨hidle, hquiet⟩ := hready
    have staled : done.any Part.stales = true := any_stales_of_wren
      (mem_of_append_cons_eq (pre := [.wait, .wait, .wren]) hsplit (by decide) (by decide))
    have few := congrArg List.length hsplit
    obtain ⟨n, hn, ran⟩ := sequence_clear_latch done b (hsplit ▸ resetProtection_sequence) [.endOk]
      (accept (requestWord 0x7#4 f) (resetProtectionLines ++ [.endOk]) s) e e' rfl hquiet hsingle hconfigured rfl hdone hcheck
      hclear hreads
    have rounds : n ≤ roundLimit := by
      simp [resetProtectionParts, enableWriteParts] at few
      simp [resetProtectionLines, enableWriteLines, waitReadyLines] at hn
      unfold roundLimit
      omega
    rw [exec_resetProtection, request_stops n hidle ran rounds,
      raise_of_latOp (op := 0x7#4) _ _ (by exact opField_requestWord _ f) (by decide), staled]
    simp [accept, State.ended, State.latch, Result.answered, ErrKind.code]
  · intro f s freq wait rest done b e e₁ e₂ e' hready horch hconfigured hreleased hfreq haw hlegal hwait hsplit hdone hreads
      hcheck hclear
    obtain ⟨hidle, hquiet⟩ := hready
    have staled : done.any Part.stales = true := any_stales_of_wren
      (mem_of_append_cons_eq (pre := [.wait, .wren]) hsplit (by decide) (by decide))
    obtain ⟨n, ls', hn, ran⟩ := recovery_request_reaches f s freq wait done e e₁ e₂ hquiet horch hconfigured hreleased hfreq
      haw hlegal hwait hsplit hdone
    have role := released_latchRole (accept (requestWord 0x8#4 f) (runRecoveryLines ++ [.endOk]) s) wait freq e₁
      afterReleaseLines
    have stopped (k : Nat) := ((congrArg (run · _) (Nat.add_assoc k 2 n).symm).trans (ran (k + 2))).trans
      (clear_latch_run b k ls' _ e' (by rfl) (by exact hquiet) (by rfl) (by rfl) (by exact hcheck) (by exact hclear)
        (by exact role.symm ▸ hreads))
    rw [exec_runRecovery, request_stops _ hidle stopped (by unfold roundLimit; omega),
      raise_of_recovery _ _ (by exact opField_requestWord _ f)]
    simp only [State.midway, State.afterParts, State.released, State.ended, answers_write, Memory.write_write, staled,
      Bool.not_true, Bool.and_false, awOperand_accept_requestWord, setWidth_byte_word, List.append_assoc]
    rfl

end Sys2Proof.Machine
end

section
/-! The environment's replies (SPEC 40_transport.md, R112; 30_encoding.md, R84): any status and any bytes are given by some draws. -/
namespace Sys2Proof.Machine

open Sys2Proof.Config

/-- Bytes drawn from words that hold them are these bytes. -/
theorem drawBytes_map_setWidth (rx : List Byte) (ds : List Word) (n : Nat) :
    Env.drawBytes rx.length ⟨none, rx.map (BitVec.setWidth 32) ++ ds, n⟩ = (rx, ⟨none, ds, n⟩) := by
  induction rx with
  | nil => rfl
  | cons b rx ih =>
    simp only [List.length_cons, List.map_cons, List.cons_append, Env.drawBytes, Env.draw, ih, setWidth_byte_word]

/-- In the normative environment a frame that succeeds gets its bytes from the draws after its status (R112). -/
theorem busFrame_succeeds (p : Params) (l : LineRole) (f : WireFrame) (rx : List Byte) (ds : List Word) (n : Nat)
    (hn : rx.length = f.nr) :
    busFrame p l f ⟨none, 0#32 :: rx.map (BitVec.setWidth 32) ++ ds, n⟩ = (⟨0#32, rx⟩, ⟨none, ds, n⟩) := by
  simp only [busFrame, List.cons_append, Env.draw, ← hn, drawBytes_map_setWidth, bytesOfBits_flatMap, if_true]

/-- Settles O40: the length of an answer is that of the frame's shape; the draws that give a reply are its status and its bytes. -/
theorem environmentGivesEveryReply : Obligations.EnvironmentGivesEveryReply := by
  refine ⟨fun p l f e hf hst => length_busFrame_rx p l f e hf hst, fun p l f st rx ds n hlen hnone => ?_⟩
  by_cases hst : st = 0#32
  · subst hst
    exact ⟨0#32 :: rx.map (BitVec.setWidth 32), busFrame_succeeds p l f rx ds n (hlen rfl)⟩
  · obtain rfl := hnone hst
    exact ⟨[st], busFrame_fails p l f st ds n hst⟩

end Sys2Proof.Machine
end

section
/-! Where the fields stand in the words the host reads (SPEC 10_state.md, R24, R25, R29 and R33): each word is its fields side by side,
the lowest last, with zeros above. -/
namespace Sys2Proof.Machine

open Sys2Proof.Config

/-! ### The words as their fields -/

theorem Status.word_eq_append (st : Status) :
    st.word = (st.orch ++ st.stage ++ BitVec.ofBool st.ovr ++ (BitVec.ofBool st.snapValid ++ BitVec.ofBool st.latchReleased ++
      BitVec.ofBool st.configured ++ BitVec.ofBool st.active)).setWidth 32 := by
  simp only [Status.word, flagAt_eq_shiftLeft, BitVec.setWidth_append_append_append_eq_shiftLeft_setWidth_or,
    BitVec.shiftLeft_zero]
  ac_rfl

theorem Result.word_eq_append (r : Result) :
    r.word = (BitVec.ofBool r.errSr1Valid ++ BitVec.ofBool r.errOpcValid ++ r.errSr1 ++ (r.errOpc ++ r.op ++ r.code)).setWidth
      32 := by
  have upper := BitVec.setWidth_append_append_append_eq_shiftLeft_setWidth_or (w'''' := 32)
    (b := BitVec.ofBool r.errSr1Valid) (b' := BitVec.ofBool r.errOpcValid) (b'' := r.errSr1)
    (b''' := r.errOpc ++ r.op ++ r.code)
  have lower := BitVec.setWidth_append_append_eq_shiftLeft_setWidth_or (w''' := 32) (b := r.errOpc) (b' := r.op)
    (b'' := r.code)
  have reversed (a b c d e g : Word) : a ||| b ||| c ||| (d ||| e ||| g) = g ||| e ||| d ||| c ||| b ||| a := by ac_rfl
  rw [upper, lower, reversed, Result.word, flagAt_eq_shiftLeft, flagAt_eq_shiftLeft]

theorem snapWord_eq_append (b1 b2 b3 : Byte) : snapWord b1 b2 b3 = (b3 ++ b2 ++ b1).setWidth 32 := by
  have fields := BitVec.setWidth_append_append_eq_shiftLeft_setWidth_or (w''' := 32) (b := b3) (b' := b2) (b'' := b1)
  have reversed (a b c : Word) : a ||| b ||| c = c ||| b ||| a := by ac_rfl
  rw [fields, reversed, snapWord]

theorem LineRoles.word_eq_append (l : LineRoles) :
    l.word = (BitVec.ofBool (l.d3 == .passiveIn) ++ BitVec.ofBool (l.d2 == .passiveIn) ++ BitVec.ofBool (l.d1 == .passiveIn) ++
      BitVec.ofBool (l.d0 == .passiveIn)).setWidth 32 := by
  simp only [LineRoles.word, flagAt_eq_shiftLeft, BitVec.setWidth_append_append_append_eq_shiftLeft_setWidth_or,
    BitVec.shiftLeft_zero]
  ac_rfl

/-! ### Reading a field back -/

/-- A field of a zero-extended value. -/
theorem extractLsb'_setWidth_inside {n : Nat} (x : BitVec n) (i len : Nat) (h : i + len ≤ n) (hn : n ≤ 32) :
    (x.setWidth 32).extractLsb' i len = x.extractLsb' i len := by
  apply BitVec.eq_of_getLsbD_eq
  intro k hk
  have inside : i + k < 32 := by omega
  simp [hk, inside]

/-- Above a zero-extended value there are zeros. -/
theorem extractLsb'_setWidth_above {n : Nat} (x : BitVec n) (i len : Nat) (h : n ≤ i) :
    (x.setWidth 32).extractLsb' i len = 0#len := by
  apply BitVec.eq_of_getLsbD_eq
  intro k hk
  have above : x.getLsbD (i + k) = false := BitVec.getLsbD_of_ge x (i + k) (by omega)
  simp [above]

/-- Settles O26: each field is read back from its place among the others. -/
theorem registerWordLayout : Obligations.RegisterWordLayout := by
  refine ⟨fun st => ?_, fun r => ?_, fun b1 b2 b3 => ?_, fun l => ?_⟩
  · rw [Status.word_eq_append]
    simp (disch := decide) only [BitVec.getLsbD_setWidth, BitVec.getLsbD_append, extractLsb'_setWidth_inside,
      extractLsb'_setWidth_above, BitVec.extractLsb'_append_eq_of_le, BitVec.extractLsb'_append_eq_of_add_le]
    simp [BitVec.extractLsb'_eq_self]
  · rw [Result.word_eq_append]
    simp (disch := decide) only [BitVec.getLsbD_setWidth, BitVec.getLsbD_append, extractLsb'_setWidth_inside,
      extractLsb'_setWidth_above, BitVec.extractLsb'_append_eq_of_le, BitVec.extractLsb'_append_eq_of_add_le]
    simp [BitVec.extractLsb'_eq_self]
  · rw [snapWord_eq_append]
    simp (disch := decide) only [extractLsb'_setWidth_inside, extractLsb'_setWidth_above,
      BitVec.extractLsb'_append_eq_of_le, BitVec.extractLsb'_append_eq_of_add_le]
    simp [BitVec.extractLsb'_eq_self]
  · rw [LineRoles.word_eq_append]
    simp (disch := decide) only [BitVec.getLsbD_setWidth, BitVec.getLsbD_append, extractLsb'_setWidth_above]
    simp

end Sys2Proof.Machine
end

section
/-! The host port (SPEC 10_state.md, R22 to R35 and R46; 20_memory.md, R65): what each index names, and what a host write and a host
read of it do. -/
namespace Sys2Proof.Machine

open Sys2Proof.Config

/-! ### What an index names -/

/-- Outside the buffers an index names a register, or nothing (R22). -/
theorem hostIndex_of_outside {p : Params} {i : Nat} (htx : inTx p i = false) (hrx : inRx p i = false) :
    hostIndex p i = registerAt i := by
  simp [hostIndex, htx, hrx]

/-- Below the buffers. -/
theorem hostIndex_of_lt {p : Params} {i : Nat} (h : i < 0x40) : hostIndex p i = registerAt i := by
  have below : ¬0x40 ≤ i ∧ ¬0x80 ≤ i := by omega
  exact hostIndex_of_outside (by simp [inTx, below.1]) (by simp [inRx, below.2])

/-- An element of TXBUF that is not in RXBUF too. -/
theorem hostIndex_tx {p : Params} {k : Nat} (hk : k < p.maxPayload) (hrx : inRx p (0x40 + k) = false) :
    hostIndex p (0x40 + k) = .tx := by
  have inside : inTx p (0x40 + k) = true := by simp [inTx, hk]
  simp [hostIndex, inside, hrx]

/-- An element of RXBUF that is not in TXBUF too. -/
theorem hostIndex_rx {p : Params} {k : Nat} (hk : k < p.maxPayload) (htx : inTx p (0x80 + k) = false) :
    hostIndex p (0x80 + k) = .rx := by
  have inside : inRx p (0x80 + k) = true := by simp [inRx, hk]
  simp [hostIndex, inside, htx]

/-- An index in a buffer names one of the buffers, whichever it is. -/
theorem hostIndex_of_inside {p : Params} {i : Nat} (h : inTx p i = true ∨ inRx p i = true) :
    hostIndex p i = .tx ∨ hostIndex p i = .rx := by
  unfold hostIndex
  split
  · split
    · split
      · exact .inl rfl
      · exact .inr rfl
    · exact .inl rfl
  next htx =>
    have hrx : inRx p i = true := h.resolve_left htx
    exact .inr (by simp [hrx])

/-- From 0x30 to 0xFF the multiples of 4 are reserved (R22). -/
theorem registerAt_reserved {i : Nat} (hlow : 0x30 ≤ i) (hhigh : i < 0x100) (hword : i % 4 = 0) : registerAt i = .reserved := by
  have listed : ¬(0x100 ≤ i ∨ i % 4 ≠ 0) := by omega
  unfold registerAt
  rw [if_neg listed]
  split
  case h_13 => rfl
  all_goals omega

/-- Every register and reserved index is a word wide (R65). -/
theorem width_registerAt (i : Nat) : (registerAt i).width = .word := by
  unfold registerAt
  split
  · rfl
  · split <;> rfl

/-- An access of another width is not admitted (R65). -/
theorem not_admits_of_width_ne {k : HostIndex} {wd : Width} (h : wd ≠ k.width) : k.admits wd = false := by
  simp [HostIndex.admits, h.symm]

/-- Only the index 0 names REQ. -/
theorem hostIndex_ne_req {p : Params} {i : Nat} (h : i ≠ 0x00) : hostIndex p i ≠ .req := by
  by_cases hin : inTx p i = true ∨ inRx p i = true
  · obtain htx | hrx := hostIndex_of_inside hin
    · simp [htx]
    · simp [hrx]
  · obtain ⟨htx, hrx⟩ := not_or.mp hin
    rw [hostIndex_of_outside (by simpa using htx) (by simpa using hrx)]
    unfold registerAt
    split
    · exact nofun
    · split
      case h_1 => exact absurd rfl h
      all_goals exact nofun

/-! ### Writes and reads of a named index -/

/-- A host write of an index that names k and admits the width. -/
theorem hostWrite_of_index {i : Nat} {wd : Width} {s : State} {k : HostIndex} (v : Word) (hk : hostIndex s.params i = k)
    (hwd : k.admits wd = true) : hostWrite i wd v s = .next (writeIndex k i v s) := by
  subst hk
  exact (hostWrite_spec i wd v s).1 hwd

/-- A host read of an index that names k and admits the width; the reserved values of ORCH and CODE apart. -/
theorem hostRead_of_index {i : Nat} {wd : Width} {s : State} {k : HostIndex} (hk : hostIndex s.params i = k)
    (hwd : k.admits wd = true) (horch : k = .status → s.status.orch ≠ 6#3)
    (hcode : k = .result → reservedCode s.result.code = false) : hostRead i wd s = .next (s.logRead (s.readIndex k i)) := by
  subst hk
  have status : ¬(hostIndex s.params i = .status ∧ s.status.orch = 6#3) := fun h => horch h.1 h.2
  have result : ¬(hostIndex s.params i = .result ∧ reservedCode s.result.code = true) := fun h => by
    simp [hcode h.1] at h
  rw [hostRead, if_pos hwd, if_neg status, if_neg result]

/-- Outside the interface both are refused (R65). -/
theorem host_refused {i : Nat} {wd : Width} {s : State} (v : Word) (h : (hostIndex s.params i).admits wd = false) :
    hostRead i wd s = .refused .outsideInterface ∧ hostWrite i wd v s = .refused .outsideInterface := by
  refine ⟨?_, (hostWrite_spec i wd v s).2 h⟩
  rw [hostRead, h]
  exact if_neg nofun

/-! ### The rules -/

/-- A write to any index but REQ's touches ADDR, FREQ and TXBUF alone (R46). -/
theorem writeIndex_keeps {k : HostIndex} (hk : k ≠ .req) (i : Nat) (v : Word) (s : State) :
    (writeIndex k i v s).status = s.status ∧ (writeIndex k i v s).result = s.result ∧
      (writeIndex k i v s).errStatus = s.errStatus ∧ (writeIndex k i v s).snap = s.snap ∧
      (writeIndex k i v s).cfg = s.cfg ∧ (writeIndex k i v s).retry = s.retry ∧
      (writeIndex k i v s).lineRole = s.lineRole ∧ (writeIndex k i v s).rxbuf = s.rxbuf ∧ (writeIndex k i v s).lat = s.lat ∧
      (writeIndex k i v s).ptr = s.ptr ∧ (writeIndex k i v s).trace = s.trace ∧
      (writeIndex k i v s).xferMode = s.xferMode := by
  cases k with
  | req => exact absurd rfl hk
  | _ => exact ⟨rfl, rfl, rfl, rfl, rfl, rfl, rfl, rfl, rfl, rfl, rfl, rfl⟩

/-- Settles O24: each access is that of what its index names. -/
theorem hostAccessRules : Obligations.HostAccessRules := by
  refine ⟨fun s i v hi => ?_, fun s k v hk htx => ?_, fun s v => ⟨?_, ?_⟩, fun s k v hk hrx => ?_, fun s t i wd h => ?_,
    fun s t i wd v hi h => ?_⟩
  · simp only [List.mem_cons, List.not_mem_nil, or_false] at hi
    obtain rfl | rfl | rfl | rfl | rfl | rfl | rfl | rfl | rfl := hi <;>
      exact hostWrite_of_index v (hostIndex_of_lt (by decide)) rfl
  · exact hostWrite_of_index v (hostIndex_rx hk htx) rfl
  · exact hostWrite_of_index v (hostIndex_of_lt (by decide)) rfl
  · exact hostWrite_of_index v (hostIndex_of_lt (by decide)) rfl
  · exact hostWrite_of_index v (hostIndex_tx hk hrx) rfl
  · rw [hostRead_next i wd s t h]
    rfl
  · rw [hostWrite_next i wd v s t h]
    exact writeIndex_keeps (hostIndex_ne_req hi) i v s

/-! ### The values -/

/-- A register's index is read as its word (R23 to R33). -/
theorem hostRead_register {s : State} {i : Nat} {k : HostIndex} (hi : i < 0x40) (hk : registerAt i = k)
    (hwd : k.admits .word = true) (horch : k = .status → s.status.orch ≠ 6#3)
    (hcode : k = .result → reservedCode s.result.code = false) : hostRead i .word s = .next (s.logRead (s.readIndex k i)) :=
  hostRead_of_index ((hostIndex_of_lt hi).trans hk) hwd horch hcode

/-- The low three bytes of a word, side by side again, are its low 24 bits. -/
theorem snapWord_extractLsb' (w : Word) :
    snapWord (w.extractLsb' 0 8) (w.extractLsb' 8 8) (w.extractLsb' 16 8) = (w.setWidth 24).setWidth 32 := by
  rw [snapWord_eq_append, BitVec.extractLsb'_append_extractLsb'_eq_extractLsb' (show 16 = 8 + 8 from rfl),
    BitVec.extractLsb'_append_extractLsb'_eq_extractLsb' (show 8 = 0 + 8 from rfl)]
  rfl

/-- SNAP and DECODED, written or open. -/
theorem hostRead_snapshot (s : State) :
    hostRead 0x18 .word s = .next (s.logRead (snapWord s.snapBytes.1 s.snapBytes.2.1 s.snapBytes.2.2)) ∧
      hostRead 0x1C .word s = .next (s.logRead
        (decodeStatus s.params.srLayout s.snapBytes.1 s.snapBytes.2.1 s.snapBytes.2.2).word) :=
  ⟨hostRead_register (k := .snap) (by decide) rfl rfl nofun nofun,
    hostRead_register (k := .decoded) (by decide) rfl rfl nofun nofun⟩

/-- A byte of a buffer, written or open. -/
theorem readByte_eq (s : State) (m : Memory) (i : Nat) :
    (∀ b, m.read i = some b → s.readByte m i = b.setWidth 32) ∧
      (m.read i = none → s.readByte m i = (s.openRead.setWidth 8).setWidth 32) :=
  ⟨fun b h => by simp [State.readByte, h], fun h => by simp [State.readByte, h]⟩

/-- Settles O25: each read is that of what its index names. -/
theorem hostReadValues : Obligations.HostReadValues := by
  refine ⟨fun s i wd rest hidle hport => ?_, fun s => ?_, fun s k hk => ⟨fun hrx => ?_, fun htx => ?_⟩,
    fun s i v hlow hhigh hword htx hrx => ?_, fun s i wd v h => host_refused v ?_⟩
  · rw [step, fetch_idle s _ rest hidle hport]
    rfl
  · obtain ⟨snap, decoded⟩ := hostRead_snapshot s
    refine ⟨hostRead_register (k := .req) (by decide) rfl rfl nofun nofun,
      hostRead_register (k := .addr) (by decide) rfl rfl nofun nofun,
      hostRead_register (k := .freq) (by decide) rfl rfl nofun nofun,
      fun h => hostRead_register (k := .status) (by decide) rfl rfl (fun _ => h) nofun,
      fun h => hostRead_register (k := .result) (by decide) rfl rfl nofun (fun _ => h),
      hostRead_register (k := .errStatus) (by decide) rfl rfl nofun nofun, fun hwritten => ?_, fun hopen => ?_,
      hostRead_register (k := .cfg) (by decide) rfl rfl nofun nofun,
      hostRead_register (k := .cfgFreq) (by decide) rfl rfl nofun nofun,
      hostRead_register (k := .retry) (by decide) rfl rfl nofun nofun,
      hostRead_register (k := .lines) (by decide) rfl rfl nofun nofun⟩
    · have stored : s.snapBytes = (s.snap.sr1, s.snap.sr2, s.snap.sr3) := if_pos hwritten
      rw [snap, decoded, stored]
      exact ⟨rfl, rfl⟩
    · have free : s.snapBytes =
          (s.openRead.extractLsb' 0 8, s.openRead.extractLsb' 8 8, s.openRead.extractLsb' 16 8) :=
        if_neg (by simp [hopen])
      rw [snap, decoded, free, ← snapWord_extractLsb']
      exact ⟨rfl, rfl⟩
  · have read : hostRead (0x40 + k) .byte s = .next (s.logRead (s.readByte s.txbuf (0x40 + k))) :=
      hostRead_of_index (hostIndex_tx hk hrx) rfl nofun nofun
    obtain ⟨written, unwritten⟩ := readByte_eq s s.txbuf (0x40 + k)
    exact ⟨fun b h => by rw [read, written b h], fun h => by rw [read, unwritten h]⟩
  · have read : hostRead (0x80 + k) .byte s = .next (s.logRead (s.readByte s.rxbuf (0x80 + k))) :=
      hostRead_of_index (hostIndex_rx hk htx) rfl nofun nofun
    obtain ⟨written, unwritten⟩ := readByte_eq s s.rxbuf (0x80 + k)
    exact ⟨fun b h => by rw [read, written b h], fun h => by rw [read, unwritten h]⟩
  · have reserved : hostIndex s.params i = .reserved :=
      (hostIndex_of_outside htx hrx).trans (registerAt_reserved hlow hhigh hword)
    exact ⟨hostRead_of_index reserved rfl nofun nofun, hostWrite_of_index v reserved rfl⟩
  · obtain ⟨htx, hrx, hout⟩ | ⟨hin, hwide⟩ := h
    · rw [hostIndex_of_outside htx hrx]
      by_cases hnone : 0x100 ≤ i ∨ i % 4 ≠ 0
      · have none_there : registerAt i = .outside := if_pos hnone
        rw [none_there]
        rfl
      · have hwide : wd ≠ .word := by tauto
        exact not_admits_of_width_ne ((width_registerAt i).symm ▸ hwide)
    · obtain hk | hk := hostIndex_of_inside hin
      · rw [hk]
        exact not_admits_of_width_ne hwide
      · rw [hk]
        exact not_admits_of_width_ne hwide

end Sys2Proof.Machine
end
